-- ==== Sys2Proof/Word.lean ====
section
/-! DEFINITION. The word types of the block (spec/00_scope.md R13 to R15: every value is an unsigned integer). -/

namespace Sys2Proof

/-- A 32-bit bus word: WDATA, RDATA, an address (spec/30_encoding.md R141). -/
abbrev Word := BitVec 32

/-- A 16-bit value: ARR, PSC, CCR, CNT and the other timer values (`TW = 16`, R10), a slot of the buffer, a BUS command word. -/
abbrev Half := BitVec 16

/-- One byte of system memory (R101). -/
abbrev Byte := BitVec 8

/-- A sample or a filtered value, `R = 12` bits (R10, R22). -/
abbrev Sample := BitVec 12

/-- One bit as a Boolean, written as a word (bit 0). -/
def bit (b : Bool) : Word := if b then 1 else 0

end Sys2Proof
end

