-- ==== Sys2Proof/Syntax.lean ====
section
/-! DEFINITION. The operations of the block: one constructor per row of spec/opcode_table.json, in the table's order, and the raw
step label an operation is decoded from (spec/30_encoding.md R140 to R151). -/

namespace Sys2Proof

/-- The operations (R147, R149, R150, R143). A write carries WDATA (R141). The bits of the command word that a row leaves free are
its other arguments, so that no bit of the label is lost. -/
inductive Instr where
  | rdCtrl
  | wrCtrl (wdata : Word)
  | rdAdccfg
  | wrAdccfg (wdata : Word)
  | rdRbase
  | wrRbase (wdata : Word)
  | rdRlen
  | wrRlen (wdata : Word)
  | rdArr
  | wrArr (wdata : Word)
  | rdPsc
  | wrPsc (wdata : Word)
  | rdCcr
  | wrCcr (wdata : Word)
  | rdCnt
  | wrCnt (wdata : Word)
  | rdSr
  | wrSr (wdata : Word)
  | rdIer
  | wrIer (wdata : Word)
  | rdDr
  | wrDr (wdata : Word)
  | rdStat
  | wrStat (wdata : Word)
  | rdFilt
  | wrFilt (wdata : Word)
  | rdOvrcnt
  | wrOvrcnt (wdata : Word)
  /-- Reserved offsets 0x038, 0x03C: `k` is OFF bit 2. -/
  | rdRsv038 (k : BitVec 1)
  /-- Reserved offsets 0x040 to 0x07C: `k` is OFF bits 5:2. -/
  | rdRsv040 (k : BitVec 4)
  /-- Reserved offsets 0x080 to 0x0FC: `k` is OFF bits 6:2. -/
  | rdRsv080 (k : BitVec 5)
  /-- Reserved offsets 0x100 to 0x1FC: `k` is OFF bits 7:2. -/
  | rdRsv100 (k : BitVec 6)
  /-- Reserved offsets 0x200 to 0x3FC: `k` is OFF bits 8:2. -/
  | rdRsv200 (k : BitVec 7)
  | wrRsv038 (k : BitVec 1) (wdata : Word)
  | wrRsv040 (k : BitVec 4) (wdata : Word)
  | wrRsv080 (k : BitVec 5) (wdata : Word)
  | wrRsv100 (k : BitVec 6) (wdata : Word)
  | wrRsv200 (k : BitVec 7) (wdata : Word)
  /-- A byte (`half = false`) or halfword access, a write when `w` (R149, first row). -/
  | subWord (w half : Bool) (off : BitVec 10) (wdata : Word)
  /-- A word access at an odd offset: `off` is OFF bits 9:1 (R149, second row). -/
  | oddOffset (w : Bool) (off : BitVec 9) (wdata : Word)
  /-- A word access at an offset that is 2 modulo 4: `off` is OFF bits 9:2 (R149, third row). -/
  | twoModFour (w : Bool) (off : BitVec 8) (wdata : Word)
  /-- A command word with bit 15 set (R150): `rest` is its bits 14:0. -/
  | refusedZ1xx (rest : BitVec 15)
  /-- A command word with bits 15:14 = 01 (R150): `rest` is its bits 13:0. -/
  | refusedZ01x (rest : BitVec 14)
  /-- A command word with bits 15:13 = 001 (R150): `rest` is its bits 12:0. -/
  | refusedZ001 (rest : BitVec 13)
  /-- A command word with Z = 000 and SZ = 11 (R150). -/
  | refusedSz11 (w : Bool) (off : BitVec 10)
  /-- A conversion completes with the value `x` (R146). -/
  | adcEoc (x : Nat)
  | dmaXfer
  | updStart
  | updDirect
  | updRead
  | updFinish
  | timTick
  | reset
  /-- The host reads `n` bytes at `a` (R146). -/
  | hostMemRd (a : Word) (n : Nat)
  /-- The host writes `n` bytes of `v` at `a` (R146). -/
  | hostMemWr (a : Word) (n : Nat) (v : Word)
  | refusedEvt0
  | refusedEvtB
  /-- An EVT code 0xC to 0xF (R150): `low` is its bits 1:0. -/
  | refusedEvtCF (low : BitVec 2)
  deriving DecidableEq, Repr

/-- A raw step label (R140): a BUS command word with the data bus, or an EVT code with the operands of R146 (an event looks only at
its own). `x` is the sample of ADC_EOC, `a`, `n`, `v` the address, size and value of a host memory access. -/
inductive Label where
  | bus (cmd : BitVec 16) (wdata : Word)
  | evt (code : BitVec 4) (x : Nat) (a : Word) (n : Nat) (v : Word)
  deriving DecidableEq, Repr, Inhabited

end Sys2Proof
end

