-- ==== Sys2Proof/WellFormed.lean ====
section
/-! DEFINITION. Which operations are well formed: the operand ranges of spec/30_encoding.md R146 and R150. -/

namespace Sys2Proof

/-- A sample is an `R`-bit unsigned number, `R` fixed at 12 (spec/00_scope.md R10, decision D6; R146: a label with `s >= 2^R` spells no
event). -/
def sampleInRange (x : Nat) : Bool := decide (x < 2 ^ 12)

/-- The sizes of a host memory access (R146, R150). -/
def accessSizeOk (n : Nat) : Bool := n == 1 || n == 2 || n == 4

/-- WDATA is on the data bus only on a write (R141): the one spelling of a read leaves it 0. -/
def readCarriesNoData (w : Bool) (wdata : Word) : Bool := w || wdata == 0

/-- Every operand is one its row admits. Every field of a row without a check here is in range by its type. -/
def Instr.wellFormed : Instr → Bool
  | .adcEoc x => sampleInRange x
  | .hostMemRd _ n => accessSizeOk n
  | .hostMemWr _ n _ => accessSizeOk n
  | .subWord w _ _ d => readCarriesNoData w d
  | .oddOffset w _ d => readCarriesNoData w d
  | .twoModFour w _ d => readCarriesNoData w d
  | .rdCtrl | .wrCtrl _ | .rdAdccfg | .wrAdccfg _ | .rdRbase | .wrRbase _ | .rdRlen | .wrRlen _ | .rdArr | .wrArr _
  | .rdPsc | .wrPsc _ | .rdCcr | .wrCcr _ | .rdCnt | .wrCnt _ | .rdSr | .wrSr _ | .rdIer | .wrIer _ | .rdDr | .wrDr _
  | .rdStat | .wrStat _ | .rdFilt | .wrFilt _ | .rdOvrcnt | .wrOvrcnt _
  | .rdRsv038 _ | .rdRsv040 _ | .rdRsv080 _ | .rdRsv100 _ | .rdRsv200 _
  | .wrRsv038 _ _ | .wrRsv040 _ _ | .wrRsv080 _ _ | .wrRsv100 _ _ | .wrRsv200 _ _
  | .refusedZ1xx _ | .refusedZ01x _ | .refusedZ001 _ | .refusedSz11 _ _
  | .dmaXfer | .updStart | .updDirect | .updRead | .updFinish | .timTick | .reset
  | .refusedEvt0 | .refusedEvtB | .refusedEvtCF _ => true

end Sys2Proof
end

