-- ==== Sys2Proof/Decode.lean ====
section
/-! DEFINITION. The decoder, the encoder and the opcode table's rows (spec/30_encoding.md R140 to R153, spec/opcode_table.json). -/

namespace Sys2Proof

/-- Why a label whose row is known spells no operation (R150). -/
inductive Reject where
  /-- `ADC_EOC(s)` with `s >= 2^R`. -/
  | sampleOutOfRange
  /-- A host memory access whose size is not 1, 2 or 4. -/
  | badAccessSize
  deriving DecidableEq, Repr

/-! ### BUS command words -/

/-- A word access at a word-aligned offset (R147). -/
def decodeWordAccess (w : Bool) (off : BitVec 10) (wdata : Word) : Instr :=
  match off.toNat, w with
  | 0x000, false => .rdCtrl   | 0x000, true => .wrCtrl wdata
  | 0x004, false => .rdAdccfg | 0x004, true => .wrAdccfg wdata
  | 0x008, false => .rdRbase  | 0x008, true => .wrRbase wdata
  | 0x00C, false => .rdRlen   | 0x00C, true => .wrRlen wdata
  | 0x010, false => .rdArr    | 0x010, true => .wrArr wdata
  | 0x014, false => .rdPsc    | 0x014, true => .wrPsc wdata
  | 0x018, false => .rdCcr    | 0x018, true => .wrCcr wdata
  | 0x01C, false => .rdCnt    | 0x01C, true => .wrCnt wdata
  | 0x020, false => .rdSr     | 0x020, true => .wrSr wdata
  | 0x024, false => .rdIer    | 0x024, true => .wrIer wdata
  | 0x028, false => .rdDr     | 0x028, true => .wrDr wdata
  | 0x02C, false => .rdStat   | 0x02C, true => .wrStat wdata
  | 0x030, false => .rdFilt   | 0x030, true => .wrFilt wdata
  | 0x034, false => .rdOvrcnt | 0x034, true => .wrOvrcnt wdata
  | _, _ =>
    if off.getLsbD 9 then
      if w then .wrRsv200 (off.extractLsb' 2 7) wdata else .rdRsv200 (off.extractLsb' 2 7)
    else if off.getLsbD 8 then
      if w then .wrRsv100 (off.extractLsb' 2 6) wdata else .rdRsv100 (off.extractLsb' 2 6)
    else if off.getLsbD 7 then
      if w then .wrRsv080 (off.extractLsb' 2 5) wdata else .rdRsv080 (off.extractLsb' 2 5)
    else if off.getLsbD 6 then
      if w then .wrRsv040 (off.extractLsb' 2 4) wdata else .rdRsv040 (off.extractLsb' 2 4)
    else
      if w then .wrRsv038 (off.extractLsb' 2 1) wdata else .rdRsv038 (off.extractLsb' 2 1)

/-- The operation a BUS command word spells (R141, R147 to R150), total over all 65536 words. -/
def decodeBus (cmd : BitVec 16) (wdata : Word) : Instr :=
  let w := cmd.getLsbD 12
  let off := cmd.extractLsb' 0 10
  let data := if w then wdata else 0
  if cmd.getLsbD 15 then .refusedZ1xx (cmd.extractLsb' 0 15)
  else if cmd.getLsbD 14 then .refusedZ01x (cmd.extractLsb' 0 14)
  else if cmd.getLsbD 13 then .refusedZ001 (cmd.extractLsb' 0 13)
  else if cmd.getLsbD 11 then
    if cmd.getLsbD 10 then .refusedSz11 w off
    else if cmd.getLsbD 0 then .oddOffset w (cmd.extractLsb' 1 9) data
    else if cmd.getLsbD 1 then .twoModFour w (cmd.extractLsb' 2 8) data
    else decodeWordAccess w off wdata
  else .subWord w (cmd.getLsbD 10) off data

/-! ### EVT codes -/

/-- The event an EVT code spells (R143), total over all 16 codes. -/
def decodeEvt (code : BitVec 4) (x : Nat) (a : Word) (n : Nat) (v : Word) : Instr :=
  match code.toNat with
  | 0x0 => .refusedEvt0
  | 0x1 => .adcEoc x
  | 0x2 => .dmaXfer
  | 0x3 => .updStart
  | 0x4 => .updDirect
  | 0x5 => .updRead
  | 0x6 => .updFinish
  | 0x7 => .timTick
  | 0x8 => .reset
  | 0x9 => .hostMemRd a n
  | 0xA => .hostMemWr a n v
  | 0xB => .refusedEvtB
  | _ => .refusedEvtCF (code.extractLsb' 0 2)

/-- Why the operands of an operation are out of range (R150); meaningful for an operation that is not well formed. -/
def Instr.rejectReason : Instr → Reject
  | .adcEoc _ => .sampleOutOfRange
  | _ => .badAccessSize

/-- The row of a label, its operands unchecked. -/
def decodeRow : Label → Instr
  | .bus cmd wdata => decodeBus cmd wdata
  | .evt code x a n v => decodeEvt code x a n v

/-- The decoder (R148, R150): total on labels, and a label with an operand out of range is rejected by name. A label whose word spells a
refused form decodes to that form's row, which no step runs. -/
def decode (l : Label) : Except Reject Instr :=
  let i := decodeRow l
  if i.wellFormed then .ok i else .error i.rejectReason

/-! ### The encoder -/

/-- A command word from its fields (R141). -/
def commandWord (w : Bool) (sz : BitVec 2) (off : BitVec 10) : BitVec 16 :=
  0#3 ++ BitVec.ofBool w ++ sz ++ off

/-- The label of a word read at an offset. -/
def readLabel (off : BitVec 10) : Label := .bus (commandWord false 0b10#2 off) 0

/-- The label of a word write at an offset. -/
def writeLabel (off : BitVec 10) (wdata : Word) : Label := .bus (commandWord true 0b10#2 off) wdata

/-- The label of an event with no operand. -/
def plainEvent (code : BitVec 4) : Label := .evt code 0 0 0 0

/-- The label that spells an operation (R141, R143, R147, R149, R150). -/
def encode : Instr → Label
  | .rdCtrl => readLabel 0x000#10
  | .wrCtrl d => writeLabel 0x000#10 d
  | .rdAdccfg => readLabel 0x004#10
  | .wrAdccfg d => writeLabel 0x004#10 d
  | .rdRbase => readLabel 0x008#10
  | .wrRbase d => writeLabel 0x008#10 d
  | .rdRlen => readLabel 0x00C#10
  | .wrRlen d => writeLabel 0x00C#10 d
  | .rdArr => readLabel 0x010#10
  | .wrArr d => writeLabel 0x010#10 d
  | .rdPsc => readLabel 0x014#10
  | .wrPsc d => writeLabel 0x014#10 d
  | .rdCcr => readLabel 0x018#10
  | .wrCcr d => writeLabel 0x018#10 d
  | .rdCnt => readLabel 0x01C#10
  | .wrCnt d => writeLabel 0x01C#10 d
  | .rdSr => readLabel 0x020#10
  | .wrSr d => writeLabel 0x020#10 d
  | .rdIer => readLabel 0x024#10
  | .wrIer d => writeLabel 0x024#10 d
  | .rdDr => readLabel 0x028#10
  | .wrDr d => writeLabel 0x028#10 d
  | .rdStat => readLabel 0x02C#10
  | .wrStat d => writeLabel 0x02C#10 d
  | .rdFilt => readLabel 0x030#10
  | .wrFilt d => writeLabel 0x030#10 d
  | .rdOvrcnt => readLabel 0x034#10
  | .wrOvrcnt d => writeLabel 0x034#10 d
  | .rdRsv038 k => readLabel (0b0000111#7 ++ k ++ 0#2)
  | .rdRsv040 k => readLabel (0b0001#4 ++ k ++ 0#2)
  | .rdRsv080 k => readLabel (0b001#3 ++ k ++ 0#2)
  | .rdRsv100 k => readLabel (0b01#2 ++ k ++ 0#2)
  | .rdRsv200 k => readLabel (0b1#1 ++ k ++ 0#2)
  | .wrRsv038 k d => writeLabel (0b0000111#7 ++ k ++ 0#2) d
  | .wrRsv040 k d => writeLabel (0b0001#4 ++ k ++ 0#2) d
  | .wrRsv080 k d => writeLabel (0b001#3 ++ k ++ 0#2) d
  | .wrRsv100 k d => writeLabel (0b01#2 ++ k ++ 0#2) d
  | .wrRsv200 k d => writeLabel (0b1#1 ++ k ++ 0#2) d
  | .subWord w half off d => .bus (commandWord w (0#1 ++ BitVec.ofBool half) off) d
  | .oddOffset w off d => .bus (commandWord w 0b10#2 (off ++ 1#1)) d
  | .twoModFour w off d => .bus (commandWord w 0b10#2 (off ++ 0b10#2)) d
  | .refusedZ1xx rest => .bus (1#1 ++ rest) 0
  | .refusedZ01x rest => .bus (0b01#2 ++ rest) 0
  | .refusedZ001 rest => .bus (0b001#3 ++ rest) 0
  | .refusedSz11 w off => .bus (commandWord w 0b11#2 off) 0
  | .adcEoc x => .evt 0x1#4 x 0 0 0
  | .dmaXfer => plainEvent 0x2#4
  | .updStart => plainEvent 0x3#4
  | .updDirect => plainEvent 0x4#4
  | .updRead => plainEvent 0x5#4
  | .updFinish => plainEvent 0x6#4
  | .timTick => plainEvent 0x7#4
  | .reset => plainEvent 0x8#4
  | .hostMemRd a n => .evt 0x9#4 0 a n 0
  | .hostMemWr a n v => .evt 0xA#4 0 a n v
  | .refusedEvt0 => plainEvent 0x0#4
  | .refusedEvtB => plainEvent 0xB#4
  | .refusedEvtCF low => plainEvent (0b11#2 ++ low)

/-! ### The opcode table -/

/-- One row's mask and match in the 16-bit command space or the 4-bit event space (R148). -/
inductive TableRow where
  | bus (mask value : BitVec 16)
  | evt (mask value : BitVec 4)
  deriving DecidableEq, Repr

/-- The row applies to a label when `word & mask = match` (R148). -/
def TableRow.applies : TableRow → Label → Bool
  | .bus mask value, .bus cmd _ => cmd &&& mask == value
  | .evt mask value, .evt code _ _ _ _ => code &&& mask == value
  | .bus _ _, .evt _ _ _ _ _ => false
  | .evt _ _, .bus _ _ => false

/-- The row of spec/opcode_table.json each constructor stands for, copied from the table's `mask` and `match`. -/
def Instr.tableRow : Instr → TableRow
  | .rdCtrl => .bus 0xFFFF 0x0800
  | .wrCtrl _ => .bus 0xFFFF 0x1800
  | .rdAdccfg => .bus 0xFFFF 0x0804
  | .wrAdccfg _ => .bus 0xFFFF 0x1804
  | .rdRbase => .bus 0xFFFF 0x0808
  | .wrRbase _ => .bus 0xFFFF 0x1808
  | .rdRlen => .bus 0xFFFF 0x080C
  | .wrRlen _ => .bus 0xFFFF 0x180C
  | .rdArr => .bus 0xFFFF 0x0810
  | .wrArr _ => .bus 0xFFFF 0x1810
  | .rdPsc => .bus 0xFFFF 0x0814
  | .wrPsc _ => .bus 0xFFFF 0x1814
  | .rdCcr => .bus 0xFFFF 0x0818
  | .wrCcr _ => .bus 0xFFFF 0x1818
  | .rdCnt => .bus 0xFFFF 0x081C
  | .wrCnt _ => .bus 0xFFFF 0x181C
  | .rdSr => .bus 0xFFFF 0x0820
  | .wrSr _ => .bus 0xFFFF 0x1820
  | .rdIer => .bus 0xFFFF 0x0824
  | .wrIer _ => .bus 0xFFFF 0x1824
  | .rdDr => .bus 0xFFFF 0x0828
  | .wrDr _ => .bus 0xFFFF 0x1828
  | .rdStat => .bus 0xFFFF 0x082C
  | .wrStat _ => .bus 0xFFFF 0x182C
  | .rdFilt => .bus 0xFFFF 0x0830
  | .wrFilt _ => .bus 0xFFFF 0x1830
  | .rdOvrcnt => .bus 0xFFFF 0x0834
  | .wrOvrcnt _ => .bus 0xFFFF 0x1834
  | .rdRsv038 _ => .bus 0xFFFB 0x0838
  | .rdRsv040 _ => .bus 0xFFC3 0x0840
  | .rdRsv080 _ => .bus 0xFF83 0x0880
  | .rdRsv100 _ => .bus 0xFF03 0x0900
  | .rdRsv200 _ => .bus 0xFE03 0x0A00
  | .wrRsv038 _ _ => .bus 0xFFFB 0x1838
  | .wrRsv040 _ _ => .bus 0xFFC3 0x1840
  | .wrRsv080 _ _ => .bus 0xFF83 0x1880
  | .wrRsv100 _ _ => .bus 0xFF03 0x1900
  | .wrRsv200 _ _ => .bus 0xFE03 0x1A00
  | .subWord _ _ _ _ => .bus 0xE800 0x0000
  | .oddOffset _ _ _ => .bus 0xEC01 0x0801
  | .twoModFour _ _ _ => .bus 0xEC03 0x0802
  | .refusedZ1xx _ => .bus 0x8000 0x8000
  | .refusedZ01x _ => .bus 0xC000 0x4000
  | .refusedZ001 _ => .bus 0xE000 0x2000
  | .refusedSz11 _ _ => .bus 0xEC00 0x0C00
  | .adcEoc _ => .evt 0xF 0x1
  | .dmaXfer => .evt 0xF 0x2
  | .updStart => .evt 0xF 0x3
  | .updDirect => .evt 0xF 0x4
  | .updRead => .evt 0xF 0x5
  | .updFinish => .evt 0xF 0x6
  | .timTick => .evt 0xF 0x7
  | .reset => .evt 0xF 0x8
  | .hostMemRd _ _ => .evt 0xF 0x9
  | .hostMemWr _ _ _ => .evt 0xF 0xA
  | .refusedEvt0 => .evt 0xF 0x0
  | .refusedEvtB => .evt 0xF 0xB
  | .refusedEvtCF _ => .evt 0xC 0xC

/-! ### The agents -/

/-- The agents of spec/00_scope.md R19. -/
inductive Agent where
  | adc | dma | upd | tim | host | rst
  deriving DecidableEq, Repr

/-- The agent a step belongs to (R19, R143, R200); a refused form is no step of any agent. -/
def Instr.agent : Instr → Option Agent
  | .adcEoc _ => some .adc
  | .dmaXfer => some .dma
  | .updStart | .updDirect | .updRead | .updFinish => some .upd
  | .timTick => some .tim
  | .reset => some .rst
  | .refusedZ1xx _ | .refusedZ01x _ | .refusedZ001 _ | .refusedSz11 _ _
  | .refusedEvt0 | .refusedEvtB | .refusedEvtCF _ => none
  | .rdCtrl | .wrCtrl _ | .rdAdccfg | .wrAdccfg _ | .rdRbase | .wrRbase _ | .rdRlen | .wrRlen _ | .rdArr | .wrArr _
  | .rdPsc | .wrPsc _ | .rdCcr | .wrCcr _ | .rdCnt | .wrCnt _ | .rdSr | .wrSr _ | .rdIer | .wrIer _ | .rdDr | .wrDr _
  | .rdStat | .wrStat _ | .rdFilt | .wrFilt _ | .rdOvrcnt | .wrOvrcnt _
  | .rdRsv038 _ | .rdRsv040 _ | .rdRsv080 _ | .rdRsv100 _ | .rdRsv200 _
  | .wrRsv038 _ _ | .wrRsv040 _ _ | .wrRsv080 _ _ | .wrRsv100 _ _ | .wrRsv200 _ _
  | .subWord _ _ _ _ | .oddOffset _ _ _ | .twoModFour _ _ _ | .hostMemRd _ _ | .hostMemWr _ _ _ => some .host

/-! ### Labels by bit number -/

/-- The label whose bits are `w`, bit 0 the least significant of the first word. A BUS label is its command word in bits 15:0 and WDATA
in bits 47:16 (assumption 11: the spec gives the operands' values and no layout of them). -/
def Label.ofBusBits (w : Nat) : Label := .bus (BitVec.ofNat 16 w) (BitVec.ofNat 32 (w / 2 ^ 16))

/-- An EVT label: the code in bits 3:0, then from bit 8 the 16-bit sample, or the 32-bit address, a byte that holds the logarithm of the
size, and the 32-bit value (assumption 11). -/
def Label.ofEvtBits (w : Nat) : Label :=
  .evt (BitVec.ofNat 4 w) (w / 2 ^ 8 % 2 ^ 16) (BitVec.ofNat 32 (w / 2 ^ 8)) (2 ^ (w / 2 ^ 40 % 2 ^ 2)) (BitVec.ofNat 32 (w / 2 ^ 48))

/-- The label of an instruction of `nbits` bits whose bits are `w`: 16 bits (a command word) or 48 (with WDATA) are a BUS label, any
other length an EVT label. -/
def Label.ofBits (nbits w : Nat) : Label :=
  if nbits = 16 ∨ nbits = 48 then Label.ofBusBits (w % 2 ^ nbits) else Label.ofEvtBits (w % 2 ^ nbits)

/-- What the decoder reads from an instruction of `nbits` table bits whose bits are `w`. -/
def decodeTableWord (nbits w : Nat) : Option Instr := (decode (Label.ofBits nbits w)).toOption

end Sys2Proof
end

