-- ==== Sys2Proof/Config.lean ====
section
/-! DEFINITION. What the platform fixes (the OPEN parameters of spec/00_scope.md R10) and the free values: constants with no body, so
that nothing can be proved of their values. -/

namespace Sys2Proof

/-- A stretch of system memory, both ends included, and which access sizes complete there. A list of windows spells any predicate
`MemOK` on 32-bit addresses and the sizes 1, 2, 4 (assumption 3). -/
structure MemWindow where
  lo : Word
  hi : Word
  bytes : Bool
  halves : Bool
  words : Bool
  deriving DecidableEq, Repr, Inhabited

/-- The OPEN parameters of R10, one record. A step never changes it. -/
structure Platform where
  /-- `NCH - 1`, so that `1 <= NCH <= 32` holds by its type. -/
  lastChannel : BitVec 5
  /-- `SMP_CYCLES[0..7]`; no rule depends on it (spec/41_sample_source.md R264). -/
  smpCycles : Vector Nat 8
  /-- `BASE` without its ten low bits, which are 0 (1 KiB aligned). -/
  basePage : BitVec 22
  ramLo : Word
  ramHi : Word
  /-- `MemOK`, as the windows on which an access completes. -/
  windows : List MemWindow
  /-- `IRQ_ID`: the interrupt-controller input the request line drives (spec/60_exceptions.md R506). -/
  irqId : Nat
  /-- `DBG_FREEZE`: converter and timer stop while the host is halted (R516). -/
  dbgFreeze : Bool
  /-- `T_*`: conversion, transfer, update and tick times; no rule depends on them (spec/70_reset_and_hazards.md R619). -/
  tConversion : Nat
  tTransfer : Nat
  tUpdate : Nat
  tTick : Nat
  deriving DecidableEq, Repr, Inhabited

/-- What arrives at one step from outside: the step's label, and whether the host is halted by a debugger (R516). -/
structure Input where
  halted : Bool
  label : Label
  deriving DecidableEq, Repr, Inhabited

/-- Free value: the platform's parameters at reset (assumption 3). -/
opaque Config.platform : Platform

/-- Free value: the step the agents take when no label is queued, by the number of the step (spec/60_exceptions.md R520, "it chooses any
enabled step of any agent"; assumption 1). -/
opaque Config.freeInput : Nat → Input

/-- Free value: the byte at an address that nothing has written since power-on (spec/20_memory.md R121; assumption 5). -/
opaque Config.initByte : Nat → Byte

/-- Free value: the mean of a window of 0 slots, by the sum (spec/43_filter_mapper.md R331 has `1 <= N`; assumption 7). -/
opaque Config.meanOfEmpty : Nat → Nat

end Sys2Proof
end

