-- ==== Sys2Proof/Machine/State.lean ====
section
/-! DEFINITION. The state of the block and of what its rules read and write outside it (spec/10_state.md, spec/70_reset_and_hazards.md
R601), the reasons a step can stop, and the state after reset. -/

namespace Sys2Proof.Machine

/-- No step faults: the block has no trap, fault or exception mechanism (spec/00_scope.md R18); its errors are SR flags and bus
responses. -/
inductive Fault where
  deriving DecidableEq, Repr

/-- Why a label has no step. All of them are safe: nothing is proved of what hardware would do. -/
inductive Refusal where
  /-- An arm of `exec` whose instruction has no meaning yet. Safe. No arm answers with it. -/
  | notModelled (mnemonic : String)
  /-- A command word with Z not 000 (spec/30_encoding.md R150), raised by the three refused-Z rows. Safe. -/
  | reservedZ
  /-- A command word with SZ = 11 (R150), raised by the refused-SZ row. Safe. -/
  | reservedSize
  /-- An EVT code 0x0 or 0xB to 0xF (R150), raised by the three refused-EVT rows. Safe. -/
  | reservedEvent
  /-- `ADC_EOC(s)` with `s >= 2^R` (R150), raised by the decoder and by ADC_EOC. Safe. -/
  | sampleOutOfRange
  /-- A host memory access of a size other than 1, 2, 4 (R150), raised by the decoder and by the two host accesses. Safe. -/
  | badAccessSize
  deriving DecidableEq, Repr

/-- The flags of SR (spec/10_state.md R42), and so the event codes (spec/60_exceptions.md R500). -/
inductive Flag where
  | eoc | ovr | htif | tcif | teif | udf | uovf | rngf | cfge | uevf | rwovf
  deriving DecidableEq, Repr

/-- The fields of CTRL (R34). -/
@[ext]
structure Ctrl where
  aden : Bool
  mode : Bool
  dmaen : Bool
  pp : Bool
  timen : Bool
  cms : Bool
  pol : Bool
  oe : Bool
  upden : Bool
  deriving DecidableEq, Repr

/-- The fields of ADCCFG (R35). -/
structure AdcCfg where
  chsel : BitVec 5
  smp : BitVec 3
  deriving DecidableEq, Repr

/-- The fields of FILT (R46). -/
structure Filt where
  fval : Sample
  duty : Half
  deriving DecidableEq, Repr

/-- USTATE (R48). -/
inductive UState where
  | idle | updating
  deriving DecidableEq, Repr

/-- TKIND (R48). -/
inductive TKind where
  | direct | ring0 | ring1
  deriving DecidableEq, Repr

/-- TDIR (R48). -/
inductive TDir where
  | up | down
  deriving DecidableEq, Repr

/-- The response the host last got (spec/00_scope.md R18; spec/20_memory.md R115, R116). -/
inductive Response where
  /-- No host operation has completed. -/
  | none
  /-- A register write completed: OKAY. -/
  | okay
  /-- A register read completed: OKAY(RDATA). -/
  | okayData (rdata : Word)
  /-- BusError. -/
  | busError
  /-- A host memory read completed with this value. -/
  | memData (value : Word)
  /-- A host memory write completed. -/
  | memDone
  /-- A host memory access met a platform bus error. -/
  | hostBusError
  deriving DecidableEq, Repr

/-- System memory: the bytes written since power-on, by address, strictly rising. -/
abbrev Memory := List Host.Cell

/-- The state. The names are the spec's; `plat` holds the OPEN parameters, and `hostHalted`, `inputs`, `stepNo` and `resp` are the
model's own (assumptions 1, 3, 6, 10). -/
@[ext]
structure State where
  ctrl : Ctrl
  adccfg : AdcCfg
  rbase : Word
  /-- `RLEN.N`. -/
  rlen : BitVec 9
  arr : Half
  psc : Half
  ccr : Half
  cnt : Half
  sr : BitVec 11
  ier : BitVec 11
  dr : Sample
  filt : Filt
  ovrcnt : Half
  unc : Bool
  dreq : Bool
  widx : Nat
  ustate : UState
  ucur : Nat
  uacc : Word
  ubase : Nat
  trigp : Bool
  tkind : TKind
  psccnt : Half
  tdir : TDir
  ccra : Half
  mem : Memory
  plat : Platform
  hostHalted : Bool
  /-- The steps to come, oldest first. -/
  inputs : List Input
  /-- How many steps have been taken. -/
  stepNo : Nat
  resp : Response
  deriving DecidableEq, Repr

/-- Right after RESET (spec/70_reset_and_hazards.md R600, R601), with no memory written and no step queued. -/
def State.reset : State where
  ctrl := { aden := false, mode := true, dmaen := false, pp := true, timen := false, cms := false, pol := false, oe := false,
            upden := false }
  adccfg := { chsel := 0, smp := 7 }
  rbase := 0
  rlen := 8
  arr := 999
  psc := 0
  ccr := 0
  cnt := 0
  sr := 0
  ier := 0
  dr := 0
  filt := { fval := 0, duty := 0 }
  ovrcnt := 0
  unc := false
  dreq := false
  widx := 0
  ustate := .idle
  ucur := 0
  uacc := 0
  ubase := 0
  trigp := false
  tkind := .ring0
  psccnt := 0
  tdir := .up
  ccra := 0
  mem := []
  plat := Config.platform
  hostHalted := false
  inputs := []
  stepNo := 0
  resp := .none

end Sys2Proof.Machine
end

