-- ==== Sys2Proof/Machine/Flags.lean ====
section
/-! DEFINITION. The status flags of SR, their enables, and the interrupt request line (spec/10_state.md R42, R43;
spec/60_exceptions.md R500 to R505). -/

namespace Sys2Proof.Machine

/-- The event code: the flag's bit number in SR and in IER (R500). -/
def Flag.code : Flag → Nat
  | .eoc => 0
  | .ovr => 1
  | .htif => 2
  | .tcif => 3
  | .teif => 4
  | .udf => 5
  | .uovf => 6
  | .rngf => 7
  | .cfge => 8
  | .uevf => 9
  | .rwovf => 10

/-- Every flag but EOC, in the order of their codes. -/
def Flag.allButEoc : List Flag := [.ovr, .htif, .tcif, .teif, .udf, .uovf, .rngf, .cfge, .uevf, .rwovf]

/-- The word with only the flag's bit set. -/
def Flag.mask (f : Flag) : BitVec 11 := BitVec.twoPow 11 f.code

/-- `SR.F`. -/
def State.flag (s : State) (f : Flag) : Bool := s.sr.getLsbD f.code

/-- `IER.F`: the flag's enable (R503). -/
def State.enable (s : State) (f : Flag) : Bool := s.ier.getLsbD f.code

/-- `setflag(F)`: it never clears another flag (spec/00_scope.md R16). -/
def State.setFlag (s : State) (f : Flag) : State := { s with sr := s.sr ||| f.mask }

/-- `if c: setflag(F)`. -/
def State.setFlagIf (s : State) (c : Bool) (f : Flag) : State := if c then s.setFlag f else s

/-- The flags written as 1 become 0, the others stay (spec/40_bus_interface.md R224). -/
def State.clearFlags (s : State) (written : BitVec 11) : State := { s with sr := s.sr &&& ~~~written }

/-- The interrupt request line, a level and a function of the state (R502, R505): the EOC term is masked in buffered mode. -/
def State.irq (s : State) : Bool :=
  (s.flag .eoc && s.enable .eoc && !s.ctrl.mode) || Flag.allButEoc.any (fun f => s.flag f && s.enable f)

/-- The line and the interrupt-controller input it drives (R506). -/
def State.irqLine (s : State) : Nat × Bool := (s.plat.irqId, s.irq)

end Sys2Proof.Machine
end

