-- ==== Sys2Proof/Machine/Operands.lean ====
section
/-! DEFINITION. The operand forms: the fields a written WDATA carries, and the word each register reads as
(spec/10_state.md R33 to R47, spec/40_bus_interface.md R204 to R233). Reserved bits read 0 and their written values are dropped. -/

namespace Sys2Proof.Machine

/-! ### Fields of WDATA -/

/-- The fields of a word written to CTRL (R208). -/
def Ctrl.ofWord (w : Word) : Ctrl where
  aden := w.getLsbD 0
  mode := w.getLsbD 1
  dmaen := w.getLsbD 2
  pp := w.getLsbD 3
  timen := w.getLsbD 4
  cms := w.getLsbD 5
  pol := w.getLsbD 6
  oe := w.getLsbD 7
  upden := w.getLsbD 8

/-- The fields of a word written to ADCCFG (R210). -/
def AdcCfg.ofWord (w : Word) : AdcCfg where
  chsel := w.extractLsb' 0 5
  smp := w.extractLsb' 8 3

/-- `WDATA[8:0]`, the field of RLEN (R214). -/
def rlenField (w : Word) : BitVec 9 := w.extractLsb' 0 9

/-- `WDATA[15:0]`, the field of ARR, PSC and CCR (R216, R218, R220). -/
def halfField (w : Word) : Half := w.extractLsb' 0 16

/-- `WDATA[10:0]`, the field of SR and IER (R224, R226). -/
def flagField (w : Word) : BitVec 11 := w.extractLsb' 0 11

/-! ### Register words -/

/-- `RD CTRL` (R207). -/
def State.ctrlWord (s : State) : Word :=
  bit s.ctrl.aden ||| bit s.ctrl.mode <<< 1 ||| bit s.ctrl.dmaen <<< 2 ||| bit s.ctrl.pp <<< 3 ||| bit s.ctrl.timen <<< 4
    ||| bit s.ctrl.cms <<< 5 ||| bit s.ctrl.pol <<< 6 ||| bit s.ctrl.oe <<< 7 ||| bit s.ctrl.upden <<< 8

/-- `RD ADCCFG` (R209): SMP in bits 10:8, CHSEL in bits 4:0. -/
def State.adccfgWord (s : State) : Word := (s.adccfg.smp ++ 0#3 ++ s.adccfg.chsel : BitVec 11).setWidth 32

/-- `RD RLEN` (R213). -/
def State.rlenWord (s : State) : Word := s.rlen.setWidth 32

/-- A 16-bit register read as a word (R215, R217, R219, R221, R233). -/
def halfWord (h : Half) : Word := h.setWidth 32

/-- `RD SR` (R223). -/
def State.srWord (s : State) : Word := s.sr.setWidth 32

/-- `RD IER` (R225). -/
def State.ierWord (s : State) : Word := s.ier.setWidth 32

/-- `RD DR` (R227), the value without its side effect. -/
def State.drWord (s : State) : Word := s.dr.setWidth 32

/-- STAT (R45, R229): WIDX in bits 9:0, then UBUSY, TRIGP, TDIR, UNC, DREQ and UHALF from bit 16. -/
def State.statWord (s : State) : Word :=
  (BitVec.ofNat 10 s.widx).setWidth 32 ||| bit (s.ustate == .updating) <<< 16 ||| bit s.trigp <<< 17 ||| bit (s.tdir == .down) <<< 18
    ||| bit s.unc <<< 19 ||| bit s.dreq <<< 20 ||| bit (s.ubase != 0) <<< 21

/-- FILT (R46, R231): DUTY in bits 31:16, FVAL in bits 11:0. -/
def State.filtWord (s : State) : Word := s.filt.duty ++ 0#4 ++ s.filt.fval

end Sys2Proof.Machine
end

