-- ==== Sys2Proof/Machine/Ops.lean ====
section
/-! DEFINITION. The shared operations of the block, each defined once (spec/00_scope.md R20): memory, the locks, the converter's data
register, the transfer engine, the filter and mapper, the timer, the update unit, the outputs, reset and the input queue. -/

namespace Sys2Proof.Machine

/-! ### System memory (spec/20_memory.md) -/

/-- Addresses strictly rising, each above `above`'s predecessor and below 2^32. -/
def Memory.risingFrom : Nat → Memory → Bool
  | _, [] => true
  | least, (a, _) :: rest => decide (least ≤ a) && decide (a < 2 ^ 32) && Memory.risingFrom (a + 1) rest

/-- The canonical form: addresses strictly rising and inside the 32-bit space (R101). An unlisted address holds no written value, so no
entry can equal what it holds. -/
def Memory.wf (m : Memory) : Bool := Memory.risingFrom 0 m

/-- The byte written at an address, if one has been written since power-on. -/
def Memory.get? (m : Memory) (a : Nat) : Option Byte :=
  match m with
  | [] => none
  | (k, b) :: rest => if k = a then some b else Memory.get? rest a

/-- One byte written; the list stays sorted. -/
def Memory.set (m : Memory) (a : Nat) (b : Byte) : Memory :=
  match m with
  | [] => [(a, b)]
  | (k, v) :: rest =>
    if a < k then (a, b) :: (k, v) :: rest
    else if a = k then (a, b) :: rest
    else (k, v) :: Memory.set rest a b

/-- What the byte at an address reads as: the last value written, or else its content at power-on, a free value (R112, R121). -/
def Memory.byteAt (m : Memory) (a : Nat) : Byte := (m.get? a).getD (Config.initByte a)

/-- `MemRead(a, n)`: the byte at the lowest address is the least significant (R103). -/
def Memory.read (m : Memory) (a : Nat) : Nat → Nat
  | 0 => 0
  | n + 1 => (m.byteAt a).toNat + 2 ^ 8 * Memory.read m (a + 1) n

/-- `MemWrite(a, n, v)`: the `n` low bytes of `v`, little-endian (R103, R116). -/
def Memory.write (m : Memory) (a : Nat) : Nat → Nat → Memory
  | 0, _ => m
  | n + 1, v => Memory.write (m.set a (BitVec.ofNat 8 v)) (a + 1) n (v / 2 ^ 8)

/-- The window lets an access of `n` bytes at `a` complete. -/
def windowAdmits (w : MemWindow) (a n : Nat) : Bool :=
  decide (w.lo.toNat ≤ a) && decide (a + n ≤ w.hi.toNat + 1) && ((n == 1 && w.bytes) || (n == 2 && w.halves) || (n == 4 && w.words))

/-- `MemOK(a, n)` (spec/00_scope.md R10, R17; assumptions 3 and 4). -/
def State.memOK (s : State) (a n : Nat) : Bool := s.plat.windows.any (fun w => windowAdmits w a n)

/-! ### The platform's parameters (spec/00_scope.md R10) -/

/-- `NCH`. -/
def State.nch (s : State) : Nat := s.plat.lastChannel.toNat + 1

/-- The selected channel exists; where it does not, the conversion still happens (spec/41_sample_source.md R263). -/
def State.channelExists (s : State) : Bool := decide (s.adccfg.chsel.toNat < s.nch)

/-- `SMP_CYCLES[SMP]` (R264). -/
def State.samplingCycles (s : State) : Nat := s.plat.smpCycles[s.adccfg.smp.toFin]

/-- The bus address of a register offset, `BASE + OFF` (spec/30_encoding.md R141). -/
def State.busAddress (s : State) (off : BitVec 10) : Word := s.plat.basePage ++ off

/-- The converter and the timer are frozen: `DBG_FREEZE` holds and the host is halted (spec/60_exceptions.md R516). -/
def State.frozen (s : State) : Bool := s.plat.dbgFreeze && s.hostHalted

/-! ### Responses and locks (spec/40_bus_interface.md) -/

/-- A register read completes with RDATA. -/
def State.answer (s : State) (rdata : Word) : State := { s with resp := .okayData rdata }

/-- A register write completes. -/
def State.done (s : State) : State := { s with resp := .okay }

/-- A malformed access answers BusError and leaves the block as it is (R201, R202, spec/60_exceptions.md R521). -/
def State.busErrorAnswer (s : State) : State := { s with resp := .busError }

/-- A pass of the update unit is pending or running (R206, the last terms of the unit and DMA locks). -/
def State.passLive (s : State) : Bool := s.ustate == .updating || s.trigp

/-- The ADC lock on ADCCFG (R206). -/
def State.adcLocked (s : State) : Bool := s.ctrl.aden

/-- The ADC and unit lock on `CTRL.MODE`, for a CTRL write of the fields `w` (R206). -/
def State.modeLocked (s : State) (w : Ctrl) : Bool := (s.ctrl.aden && w.aden) || s.passLive

/-- The DMA lock on `CTRL.PP`, for a CTRL write of the fields `w` (R206). -/
def State.ppLocked (s : State) (w : Ctrl) : Bool := (s.ctrl.dmaen && w.dmaen) || s.passLive

/-- The DMA lock on RBASE and RLEN (R206). -/
def State.dmaLocked (s : State) : Bool := s.ctrl.dmaen || s.passLive

/-- The TIM lock on `CTRL.CMS` and `CTRL.POL`, for a CTRL write of the fields `w` (R206). -/
def State.timFieldsLocked (s : State) (w : Ctrl) : Bool := s.ctrl.timen && w.timen

/-- The TIM lock on ARR and PSC (R206). -/
def State.timLocked (s : State) : Bool := s.ctrl.timen

/-- The value of a field after a write under a lock: it keeps its value while locked (R205). -/
def lockedField {α : Type} (locked : Bool) (old new : α) : α := if locked then old else new

/-- The write is ignored by the lock: it would give the field another value (R205). -/
def lockViolated {α : Type} [DecidableEq α] (locked : Bool) (old new : α) : Bool := locked && decide (new ≠ old)

/-! ### The converter's data register (spec/41_sample_source.md R266) -/

/-- The state after `consumeDR()`, which returns DR. -/
def State.consumeDR (s : State) : State := { s.clearFlags Flag.eoc.mask with unc := false }

/-! ### The update unit's trigger (spec/45_update_unit.md R401) -/

/-- `trigger(k)`: the latest event wins. -/
def State.trigger (s : State) (k : TKind) : State :=
  { s.setFlagIf (s.trigp || s.ustate == .updating) .uovf with trigp := true, tkind := k }

/-- `if c: trigger(k)`. -/
def State.triggerIf (s : State) (c : Bool) (k : TKind) : State := if c then s.trigger k else s

/-! ### The transfer engine (spec/42_transfer_engine.md) -/

/-- `L()`, the buffer length, `N` being RLEN (R290). -/
def State.bufLen (s : State) : Nat := if s.ctrl.pp then 2 * s.rlen.toNat else s.rlen.toNat

/-- `h()`, the half-transfer point (R291). -/
def State.halfPoint (s : State) : Nat := max 1 (s.bufLen / 2)

/-- The byte address of slot `i` (R290, R302), with no wrap-around. -/
def State.slotAddr (s : State) (i : Nat) : Nat := s.rbase.toNat + 2 * i

/-- `legal()` (R293), with `N_MAX = 256`. -/
def State.legal (s : State) : Bool :=
  decide (1 ≤ s.rlen.toNat) && decide (s.rlen.toNat ≤ 256) && !s.rbase.getLsbD 0 && decide (s.plat.ramLo.toNat ≤ s.rbase.toNat)
    && decide (s.rbase.toNat + 2 * s.bufLen - 1 ≤ s.plat.ramHi.toNat)

/-- `dmaEnable()` (R292). -/
def State.dmaEnable (s : State) : State :=
  if s.flag .teif then s.setFlag .cfge
  else if !s.legal then s.setFlag .teif
  else { s with ctrl := { s.ctrl with dmaen := true }, widx := 0, dreq := false }

/-- `dmaDisable()` (R294). -/
def State.dmaDisable (s : State) : State := { s with ctrl := { s.ctrl with dmaen := false }, dreq := false }

/-- `teFault()`, taking a transfer error (R300): the one operation every transfer fault goes through. -/
def State.teFault (s : State) : State :=
  { s.setFlag .teif with ctrl := { s.ctrl with dmaen := false }, dreq := false }

/-- `base(k)`: the first slot of the ring a trigger asks for (spec/45_update_unit.md R402). -/
def State.ringBase (s : State) (k : TKind) : Nat :=
  match k with
  | .ring1 => s.rlen.toNat
  | .ring0 | .direct => 0

/-- Slot `i` is still to be read by the running pass, or by the pending one (R299). -/
def State.tornBy (s : State) (i : Nat) : Bool :=
  (s.ustate == .updating && decide (s.ubase + s.ucur ≤ i) && decide (i < s.ubase + s.rlen.toNat))
    || (s.trigp && s.tkind != .direct && decide (s.ringBase s.tkind ≤ i) && decide (i < s.ringBase s.tkind + s.rlen.toNat))

/-- `checkTornRead(i)` (R299). -/
def State.checkTornRead (s : State) (i : Nat) : State := s.setFlagIf (s.tornBy i) .rwovf

/-- The half-transfer event of a transfer that has written `k` slots (R295, R296). -/
def State.halfTransfer (s : State) (k : Nat) : State :=
  if k = s.halfPoint then (s.setFlag .htif).triggerIf (s.ctrl.pp && s.ctrl.upden) .ring0 else s

/-- The transfer-complete event and the advance of WIDX (R295, R297). -/
def State.advanceSlot (s : State) (k : Nat) : State :=
  if k = s.bufLen then
    ({ s.setFlag .tcif with widx := 0 }).triggerIf s.ctrl.upden (if s.ctrl.pp then .ring1 else .ring0)
  else { s with widx := k }

/-- The slot write of a transfer (R295, R303), the value taken from DR. -/
def State.storeSlot (s : State) : State :=
  { s with mem := s.mem.write (s.slotAddr s.widx) 2 s.dr.toNat, dreq := false }

/-- The body of DMA_XFER (R295). -/
def State.transfer (s : State) : State :=
  if !s.memOK (s.slotAddr s.widx) 2 then s.teFault
  else (((s.consumeDR.checkTornRead s.widx).storeSlot).halfTransfer (s.widx + 1)).advanceSlot (s.widx + 1)

/-- DMA_XFER is enabled (R295). -/
def State.dmaXferEnabled (s : State) : Bool := s.ctrl.dmaen && s.dreq

/-! ### The filter and the mapper (spec/43_filter_mapper.md) -/

/-- `mean(acc, N)` (R331), truncating; for `N = 0`, where the rule gives no value, a free value. -/
def mean (acc n : Nat) : Nat := if n = 0 then Config.meanOfEmpty acc else acc / n

/-- `clampR(m)`, its value (R333): `2^R - 1` is 4095. -/
def clampR (m : Nat) : Nat := if 4095 < m then 4095 else m

/-- `clampR(m)`, its flag (R333). -/
def rangeViolated (m : Nat) : Bool := decide (4095 < m)

/-- `map(f, ARR) = (f * (ARR + 1)) >> R`, `R` being 12 (R335). -/
def dutyMap (f arr : Nat) : Nat := f * (arr + 1) / 2 ^ 12

/-- `filter` of the slot values of a stable ring (R330), the reference the update unit's pass is held to. -/
def filterOf (slots : List Nat) : Nat := clampR (mean slots.sum slots.length)

/-! ### The update unit (spec/45_update_unit.md) -/

/-- UPD_START is enabled (R402). -/
def State.updStartEnabled (s : State) : Bool := s.ustate == .idle && s.trigp && s.tkind != .direct && s.ctrl.upden

/-- UPD_READ is enabled (R403). -/
def State.updReadEnabled (s : State) : Bool := s.ustate == .updating && decide (s.ucur < s.rlen.toNat)

/-- UPD_FINISH is enabled (R404). -/
def State.updFinishEnabled (s : State) : Bool := s.ustate == .updating && decide (s.ucur = s.rlen.toNat)

/-- UPD_DIRECT is enabled (R405). -/
def State.updDirectEnabled (s : State) : Bool := s.ustate == .idle && s.trigp && s.tkind == .direct && s.ctrl.upden

/-- The start of a ring pass (R402). -/
def State.startPass (s : State) : State :=
  { s with ubase := s.ringBase s.tkind, ucur := 0, uacc := 0, trigp := false, ustate := .updating }

/-- The slot the pass reads next (spec/20_memory.md R106). -/
def State.passSlot (s : State) : Nat := s.ubase + s.ucur

/-- One slot read of a ring pass (R403), a read error ending the pass (R407). -/
def State.readSlot (s : State) : State :=
  if !s.memOK (s.slotAddr s.passSlot) 2 then { s.teFault with ustate := .idle }
  else { s with uacc := BitVec.ofNat 32 (s.uacc.toNat + s.mem.read (s.slotAddr s.passSlot) 2), ucur := s.ucur + 1 }

/-- Filter value `m` clamped, mapped and written: the common end of both passes (R404, R405). -/
def State.commit (s : State) (m : Nat) : State :=
  { (s.setFlagIf (rangeViolated m) .rngf).setFlag .udf with
    ccr := BitVec.ofNat 16 (dutyMap (clampR m) s.arr.toNat)
    filt := { fval := BitVec.ofNat 12 (clampR m), duty := BitVec.ofNat 16 (dutyMap (clampR m) s.arr.toNat) } }

/-- The end of a ring pass (R404). -/
def State.finishPass (s : State) : State := { s.commit (mean s.uacc.toNat s.rlen.toNat) with ustate := .idle }

/-- The direct pass (R405). -/
def State.directPass (s : State) : State := ({ s with trigp := false }).consumeDR.commit s.dr.toNat

/-! ### The timer (spec/44_actuation_sink.md) -/

/-- `timEnable()` (R360). -/
def State.timEnable (s : State) : State :=
  { s with ctrl := { s.ctrl with timen := true }, cnt := 0, psccnt := 0, tdir := .up, ccra := s.ccr }

/-- `timDisable()` (R361). -/
def State.timDisable (s : State) : State := { s with ctrl := { s.ctrl with timen := false } }

/-- `update_event()` (R366). -/
def State.updateEvent (s : State) : State := { s.setFlag .uevf with ccra := s.ccr }

/-- `count()` in up-counting mode (R363). -/
def State.countUp (s : State) : State :=
  if s.arr ≤ s.cnt then ({ s with cnt := 0 }).updateEvent else { s with cnt := s.cnt + 1 }

/-- `count()` in center-aligned mode (R364). -/
def State.countCenter (s : State) : State :=
  match s.tdir with
  | .up => { s with cnt := s.cnt + 1, tdir := if s.cnt + 1 = s.arr then .down else .up }
  | .down =>
    if s.cnt - 1 = 0 then ({ s with cnt := s.cnt - 1, tdir := .up }).updateEvent else { s with cnt := s.cnt - 1 }

/-- `count()` (R363, R364); with ARR = 0 nothing moves (R365). -/
def State.count (s : State) : State :=
  if s.arr = 0 then s else if s.ctrl.cms then s.countCenter else s.countUp

/-- TIM_TICK is enabled (R362; frozen with the host, R516). -/
def State.tickEnabled (s : State) : Bool := s.ctrl.timen && !s.frozen

/-- The body of TIM_TICK (R362). -/
def State.tick (s : State) : State :=
  if s.psccnt < s.psc then { s with psccnt := s.psccnt + 1 } else ({ s with psccnt := 0 }).count

/-- `OCREF` (R367). -/
def State.ocref (s : State) : Bool := decide (s.cnt < s.ccra)

/-- `PWM_OUT` (R367): true is the high level. -/
def State.pwmOut (s : State) : Bool := if s.ctrl.oe then s.ocref ^^ s.ctrl.pol else s.ctrl.pol

/-! ### The converter (spec/41_sample_source.md) -/

/-- ADC_EOC is enabled (R260; frozen with the host, R516). -/
def State.adcEnabled (s : State) : Bool := s.ctrl.aden && !s.frozen

/-- `sat_16(v + 1)` (spec/00_scope.md R15). -/
def satSucc (v : Half) : Half := BitVec.ofNat 16 (min (v.toNat + 1) (2 ^ 16 - 1))

/-- An overrun is reported and counted (R261, R269). -/
def State.noteOverrun (s : State) : State :=
  if s.unc then { s.setFlag .ovr with ovrcnt := satSucc s.ovrcnt } else s

/-- DR takes the new value (R261). -/
def State.deposit (s : State) (x : Sample) : State := { s.setFlag .eoc with dr := x, unc := true }

/-- Buffered mode requests a transfer, direct mode a direct pass (R261, R267, R268). -/
def State.requestService (s : State) : State :=
  ({ s with dreq := s.dreq || (s.ctrl.mode && s.ctrl.dmaen) }).triggerIf (!s.ctrl.mode && s.ctrl.upden) .direct

/-- The body of ADC_EOC (R261). -/
def State.conversion (s : State) (x : Sample) : State := (s.noteOverrun.deposit x).requestService

/-! ### The enables of a CTRL write (spec/40_bus_interface.md R208) -/

/-- Step 1: the locked fields. -/
def State.writeLockedFields (s : State) (w : Ctrl) : State :=
  ({ s with ctrl := { s.ctrl with
      mode := lockedField (s.modeLocked w) s.ctrl.mode w.mode
      pp := lockedField (s.ppLocked w) s.ctrl.pp w.pp
      cms := lockedField (s.timFieldsLocked w) s.ctrl.cms w.cms
      pol := lockedField (s.timFieldsLocked w) s.ctrl.pol w.pol } }).setFlagIf
    (lockViolated (s.modeLocked w) s.ctrl.mode w.mode || lockViolated (s.ppLocked w) s.ctrl.pp w.pp
      || lockViolated (s.timFieldsLocked w) s.ctrl.cms w.cms || lockViolated (s.timFieldsLocked w) s.ctrl.pol w.pol) .cfge

/-- Step 2: the fields with no lock. -/
def State.writeFreeFields (s : State) (w : Ctrl) : State := { s with ctrl := { s.ctrl with oe := w.oe, upden := w.upden } }

/-- Step 3: the timer's enable bit. -/
def State.writeTimen (s : State) (w : Bool) : State :=
  if !s.ctrl.timen && w then s.timEnable else if s.ctrl.timen && !w then s.timDisable else s

/-- Step 4: the transfer engine's enable bit. -/
def State.writeDmaen (s : State) (w : Bool) : State :=
  if !s.ctrl.dmaen && w then s.dmaEnable else if s.ctrl.dmaen && !w then s.dmaDisable else s

/-- Step 5: the converter's enable bit (spec/41_sample_source.md R265). -/
def State.writeAden (s : State) (w : Bool) : State := { s with ctrl := { s.ctrl with aden := w } }

/-- The effect of `WR CTRL` (R208), the steps in the rule's order. -/
def State.writeCtrl (s : State) (w : Ctrl) : State :=
  ((((s.writeLockedFields w).writeFreeFields w).writeTimen w.timen).writeDmaen w.dmaen).writeAden w.aden

/-! ### Reset (spec/70_reset_and_hazards.md R600) -/

/-- Every register and hidden item at its reset value; memory, the platform and what is outside the block stay. -/
def State.resetBlock (s : State) : State :=
  { State.reset with
    mem := s.mem, plat := s.plat, hostHalted := s.hostHalted, inputs := s.inputs, stepNo := s.stepNo, resp := s.resp }

/-! ### The steps to come (assumption 1) -/

/-- What the next step is given: the oldest queued input, or a free one. -/
def State.nextInput (s : State) : Input :=
  match s.inputs with
  | [] => Config.freeInput s.stepNo
  | i :: _ => i

/-- The state the next step's operation runs in: its input is taken from the queue, and the host's halt is as it says. -/
def State.fetched (s : State) : State :=
  { s with hostHalted := s.nextInput.halted, inputs := s.inputs.tail, stepNo := s.stepNo + 1 }

/-- The refusal a rejected label ends in. -/
def rejectRefusal : Reject → Refusal
  | .sampleOutOfRange => .sampleOutOfRange
  | .badAccessSize => .badAccessSize

end Sys2Proof.Machine
end

