-- ==== Sys2Proof/Machine/BusConfig.lean ====
section
/-! DEFINITION. Bus operations on the control and configuration registers (spec/40_bus_interface.md R207 to R218). -/

namespace Sys2Proof.Machine

/-- RD CTRL (R207). -/
def execRdCtrl (s : State) : Host.Outcome State Fault Refusal :=
  .next (s.answer s.ctrlWord)

/-- WR CTRL (R208). -/
def execWrCtrl (wdata : Word) (s : State) : Host.Outcome State Fault Refusal :=
  .next (s.writeCtrl (Ctrl.ofWord wdata)).done

/-- RD ADCCFG (R209). -/
def execRdAdccfg (s : State) : Host.Outcome State Fault Refusal :=
  .next (s.answer s.adccfgWord)

/-- WR ADCCFG (R210): each field under the ADC lock of R205. -/
def execWrAdccfg (wdata : Word) (s : State) : Host.Outcome State Fault Refusal :=
  let w := AdcCfg.ofWord wdata
  .next ({ s with adccfg := { chsel := lockedField s.adcLocked s.adccfg.chsel w.chsel
                              smp := lockedField s.adcLocked s.adccfg.smp w.smp } }.setFlagIf
    (lockViolated s.adcLocked s.adccfg.chsel w.chsel || lockViolated s.adcLocked s.adccfg.smp w.smp) .cfge).done

/-- RD RBASE (R211). -/
def execRdRbase (s : State) : Host.Outcome State Fault Refusal :=
  .next (s.answer s.rbase)

/-- WR RBASE (R212), under the DMA lock. -/
def execWrRbase (wdata : Word) (s : State) : Host.Outcome State Fault Refusal :=
  .next ({ s with rbase := lockedField s.dmaLocked s.rbase wdata }.setFlagIf
    (lockViolated s.dmaLocked s.rbase wdata) .cfge).done

/-- RD RLEN (R213). -/
def execRdRlen (s : State) : Host.Outcome State Fault Refusal :=
  .next (s.answer s.rlenWord)

/-- WR RLEN (R214), under the DMA lock. -/
def execWrRlen (wdata : Word) (s : State) : Host.Outcome State Fault Refusal :=
  .next ({ s with rlen := lockedField s.dmaLocked s.rlen (rlenField wdata) }.setFlagIf
    (lockViolated s.dmaLocked s.rlen (rlenField wdata)) .cfge).done

/-- RD ARR (R215). -/
def execRdArr (s : State) : Host.Outcome State Fault Refusal :=
  .next (s.answer (halfWord s.arr))

/-- WR ARR (R216), under the TIM lock. -/
def execWrArr (wdata : Word) (s : State) : Host.Outcome State Fault Refusal :=
  .next ({ s with arr := lockedField s.timLocked s.arr (halfField wdata) }.setFlagIf
    (lockViolated s.timLocked s.arr (halfField wdata)) .cfge).done

/-- RD PSC (R217). -/
def execRdPsc (s : State) : Host.Outcome State Fault Refusal :=
  .next (s.answer (halfWord s.psc))

/-- WR PSC (R218), under the TIM lock. -/
def execWrPsc (wdata : Word) (s : State) : Host.Outcome State Fault Refusal :=
  .next ({ s with psc := lockedField s.timLocked s.psc (halfField wdata) }.setFlagIf
    (lockViolated s.timLocked s.psc (halfField wdata)) .cfge).done

end Sys2Proof.Machine
end

