-- ==== Sys2Proof/Machine/BusOther.lean ====
section
/-! DEFINITION. Bus operations on reserved offsets, and the bus-error forms (spec/40_bus_interface.md R201 to R203). -/

namespace Sys2Proof.Machine

/-- A read of a reserved offset 0x038 to 0x03C returns 0 (R203). -/
def execRdRsv038 (_k : BitVec 1) (s : State) : Host.Outcome State Fault Refusal :=
  .next (s.answer 0)

/-- A read of a reserved offset 0x040 to 0x07C returns 0 (R203). -/
def execRdRsv040 (_k : BitVec 4) (s : State) : Host.Outcome State Fault Refusal :=
  .next (s.answer 0)

/-- A read of a reserved offset 0x080 to 0x0FC returns 0 (R203). -/
def execRdRsv080 (_k : BitVec 5) (s : State) : Host.Outcome State Fault Refusal :=
  .next (s.answer 0)

/-- A read of a reserved offset 0x100 to 0x1FC returns 0 (R203). -/
def execRdRsv100 (_k : BitVec 6) (s : State) : Host.Outcome State Fault Refusal :=
  .next (s.answer 0)

/-- A read of a reserved offset 0x200 to 0x3FC returns 0 (R203). -/
def execRdRsv200 (_k : BitVec 7) (s : State) : Host.Outcome State Fault Refusal :=
  .next (s.answer 0)

/-- A write of a reserved offset 0x038 to 0x03C changes nothing (R203). -/
def execWrRsv038 (_k : BitVec 1) (_wdata : Word) (s : State) : Host.Outcome State Fault Refusal :=
  .next s.done

/-- A write of a reserved offset 0x040 to 0x07C changes nothing (R203). -/
def execWrRsv040 (_k : BitVec 4) (_wdata : Word) (s : State) : Host.Outcome State Fault Refusal :=
  .next s.done

/-- A write of a reserved offset 0x080 to 0x0FC changes nothing (R203). -/
def execWrRsv080 (_k : BitVec 5) (_wdata : Word) (s : State) : Host.Outcome State Fault Refusal :=
  .next s.done

/-- A write of a reserved offset 0x100 to 0x1FC changes nothing (R203). -/
def execWrRsv100 (_k : BitVec 6) (_wdata : Word) (s : State) : Host.Outcome State Fault Refusal :=
  .next s.done

/-- A write of a reserved offset 0x200 to 0x3FC changes nothing (R203). -/
def execWrRsv200 (_k : BitVec 7) (_wdata : Word) (s : State) : Host.Outcome State Fault Refusal :=
  .next s.done

/-- A byte or halfword access: BusError, nothing changes (R201). -/
def execSubWord (_w _half : Bool) (_off : BitVec 10) (_wdata : Word) (s : State) : Host.Outcome State Fault Refusal :=
  .next s.busErrorAnswer

/-- A word access at an odd offset: BusError, nothing changes (R202). -/
def execOddOffset (_w : Bool) (_off : BitVec 9) (_wdata : Word) (s : State) : Host.Outcome State Fault Refusal :=
  .next s.busErrorAnswer

/-- A word access at an offset that is 2 modulo 4: BusError, nothing changes (R202). -/
def execTwoModFour (_w : Bool) (_off : BitVec 8) (_wdata : Word) (s : State) : Host.Outcome State Fault Refusal :=
  .next s.busErrorAnswer

end Sys2Proof.Machine
end

