-- ==== Sys2Proof/Machine/BusStatus.lean ====
section
/-! DEFINITION. Bus operations on the compare, counter, status and data registers (spec/40_bus_interface.md R219 to R234). -/

namespace Sys2Proof.Machine

/-- RD CCR (R219): the preload value. -/
def execRdCcr (s : State) : Host.Outcome State Fault Refusal :=
  .next (s.answer (halfWord s.ccr))

/-- WR CCR (R220): ignored with CFGE while the update unit owns CCR. -/
def execWrCcr (wdata : Word) (s : State) : Host.Outcome State Fault Refusal :=
  .next (if s.ctrl.upden then s.setFlag .cfge else { s with ccr := halfField wdata }).done

/-- RD CNT (R221). -/
def execRdCnt (s : State) : Host.Outcome State Fault Refusal :=
  .next (s.answer (halfWord s.cnt))

/-- WR CNT (R222): ignored. -/
def execWrCnt (_wdata : Word) (s : State) : Host.Outcome State Fault Refusal :=
  .next s.done

/-- RD SR (R223). -/
def execRdSr (s : State) : Host.Outcome State Fault Refusal :=
  .next (s.answer s.srWord)

/-- WR SR (R224): write-one-to-clear. -/
def execWrSr (wdata : Word) (s : State) : Host.Outcome State Fault Refusal :=
  .next (s.clearFlags (flagField wdata)).done

/-- RD IER (R225). -/
def execRdIer (s : State) : Host.Outcome State Fault Refusal :=
  .next (s.answer s.ierWord)

/-- WR IER (R226). -/
def execWrIer (wdata : Word) (s : State) : Host.Outcome State Fault Refusal :=
  .next ({ s with ier := flagField wdata }).done

/-- RD DR (R227): the read consumes. -/
def execRdDr (s : State) : Host.Outcome State Fault Refusal :=
  .next (s.consumeDR.answer s.drWord)

/-- WR DR (R228): ignored. -/
def execWrDr (_wdata : Word) (s : State) : Host.Outcome State Fault Refusal :=
  .next s.done

/-- RD STAT (R229). -/
def execRdStat (s : State) : Host.Outcome State Fault Refusal :=
  .next (s.answer s.statWord)

/-- WR STAT (R230): ignored. -/
def execWrStat (_wdata : Word) (s : State) : Host.Outcome State Fault Refusal :=
  .next s.done

/-- RD FILT (R231). -/
def execRdFilt (s : State) : Host.Outcome State Fault Refusal :=
  .next (s.answer s.filtWord)

/-- WR FILT (R232): ignored. -/
def execWrFilt (_wdata : Word) (s : State) : Host.Outcome State Fault Refusal :=
  .next s.done

/-- RD OVRCNT (R233). -/
def execRdOvrcnt (s : State) : Host.Outcome State Fault Refusal :=
  .next (s.answer (halfWord s.ovrcnt))

/-- WR OVRCNT (R234): the count becomes 0, whatever is written. -/
def execWrOvrcnt (_wdata : Word) (s : State) : Host.Outcome State Fault Refusal :=
  .next ({ s with ovrcnt := 0 }).done

end Sys2Proof.Machine
end

