-- ==== Sys2Proof/Machine/HostMemory.lean ====
section
/-! DEFINITION. The host's own accesses to system memory (spec/20_memory.md R115, R116). -/

namespace Sys2Proof.Machine

/-- HOST_MEMRD(a, n) (R115). A size other than 1, 2, 4 spells no event (R150). -/
def execHostMemRd (a : Word) (n : Nat) (s : State) : Host.Outcome State Fault Refusal :=
  if accessSizeOk n then
    .next { s with resp := if s.memOK a.toNat n then .memData (BitVec.ofNat 32 (s.mem.read a.toNat n)) else .hostBusError }
  else .refused .badAccessSize

/-- HOST_MEMWR(a, n, v) (R116). A size other than 1, 2, 4 spells no event (R150). -/
def execHostMemWr (a : Word) (n : Nat) (v : Word) (s : State) : Host.Outcome State Fault Refusal :=
  if accessSizeOk n then
    .next (if s.memOK a.toNat n then { s with mem := s.mem.write a.toNat n v.toNat, resp := .memDone } else { s with resp := .hostBusError })
  else .refused .badAccessSize

end Sys2Proof.Machine
end

