-- ==== Sys2Proof/Machine/RefusedForms.lean ====
section
/-! DEFINITION. The forms that spell no operation (spec/30_encoding.md R150): "the model gives them no step and marks the run refused". -/

namespace Sys2Proof.Machine

/-- Z = 1xx spells no operation (R150). -/
def execRefusedZ1xx (_rest : BitVec 15) (_s : State) : Host.Outcome State Fault Refusal :=
  .refused .reservedZ

/-- Z = 01x spells no operation (R150). -/
def execRefusedZ01x (_rest : BitVec 14) (_s : State) : Host.Outcome State Fault Refusal :=
  .refused .reservedZ

/-- Z = 001 spells no operation (R150). -/
def execRefusedZ001 (_rest : BitVec 13) (_s : State) : Host.Outcome State Fault Refusal :=
  .refused .reservedZ

/-- SZ = 11 spells no operation (R150). -/
def execRefusedSz11 (_w : Bool) (_off : BitVec 10) (_s : State) : Host.Outcome State Fault Refusal :=
  .refused .reservedSize

/-- EVT code 0x0 spells no event (R150). -/
def execRefusedEvt0 (_s : State) : Host.Outcome State Fault Refusal :=
  .refused .reservedEvent

/-- EVT code 0xB spells no event (R150). -/
def execRefusedEvtB (_s : State) : Host.Outcome State Fault Refusal :=
  .refused .reservedEvent

/-- EVT codes 0xC to 0xF spell no event (R150). -/
def execRefusedEvtCF (_low : BitVec 2) (_s : State) : Host.Outcome State Fault Refusal :=
  .refused .reservedEvent

end Sys2Proof.Machine
end

