-- ==== Sys2Proof/Machine/ResetEvent.lean ====
section
/-! DEFINITION. The reset event (spec/70_reset_and_hazards.md R600, R601). -/

namespace Sys2Proof.Machine

/-- RESET (R600). -/
def execReset (s : State) : Host.Outcome State Fault Refusal :=
  .next s.resetBlock

end Sys2Proof.Machine
end

