-- ==== Sys2Proof/Machine/SampleSource.lean ====
section
/-! DEFINITION. The converter's event (spec/41_sample_source.md). -/

namespace Sys2Proof.Machine

/-- ADC_EOC(x) (R261). Not enabled, it is no step (R144); a sample outside `R` bits spells no event (R146). -/
def execAdcEoc (x : Nat) (s : State) : Host.Outcome State Fault Refusal :=
  if sampleInRange x then .next (if s.adcEnabled then s.conversion (BitVec.ofNat 12 x) else s)
  else .refused .sampleOutOfRange

end Sys2Proof.Machine
end

