-- ==== Sys2Proof/Machine/Timer.lean ====
section
/-! DEFINITION. The timer's event (spec/44_actuation_sink.md). -/

namespace Sys2Proof.Machine

/-- TIM_TICK (R362). Not enabled, it is no step (R144). -/
def execTimTick (s : State) : Host.Outcome State Fault Refusal :=
  .next (if s.tickEnabled then s.tick else s)

end Sys2Proof.Machine
end

