-- ==== Sys2Proof/Machine/TransferEngine.lean ====
section
/-! DEFINITION. The transfer engine's event (spec/42_transfer_engine.md). -/

namespace Sys2Proof.Machine

/-- DMA_XFER (R295). Not enabled, it is no step (R144). -/
def execDmaXfer (s : State) : Host.Outcome State Fault Refusal :=
  .next (if s.dmaXferEnabled then s.transfer else s)

end Sys2Proof.Machine
end

