-- ==== Sys2Proof/Machine/UpdateUnit.lean ====
section
/-! DEFINITION. The update unit's events (spec/45_update_unit.md). -/

namespace Sys2Proof.Machine

/-- UPD_START (R402). Not enabled, it is no step (R144). -/
def execUpdStart (s : State) : Host.Outcome State Fault Refusal :=
  .next (if s.updStartEnabled then s.startPass else s)

/-- UPD_DIRECT (R405). Not enabled, it is no step (R144). -/
def execUpdDirect (s : State) : Host.Outcome State Fault Refusal :=
  .next (if s.updDirectEnabled then s.directPass else s)

/-- UPD_READ (R403). Not enabled, it is no step (R144). -/
def execUpdRead (s : State) : Host.Outcome State Fault Refusal :=
  .next (if s.updReadEnabled then s.readSlot else s)

/-- UPD_FINISH (R404). Not enabled, it is no step (R144). -/
def execUpdFinish (s : State) : Host.Outcome State Fault Refusal :=
  .next (if s.updFinishEnabled then s.finishPass else s)

end Sys2Proof.Machine
end

