-- ==== Sys2Proof/Machine/Dispatch.lean ====
section
/-! DEFINITION. One arm per operation. -/

namespace Sys2Proof.Machine

def exec (i : Instr) (s : State) : Host.Outcome State Fault Refusal :=
  match i with
  | .rdCtrl => Sys2Proof.Machine.execRdCtrl s
  | .wrCtrl wdata => Sys2Proof.Machine.execWrCtrl wdata s
  | .rdAdccfg => Sys2Proof.Machine.execRdAdccfg s
  | .wrAdccfg wdata => Sys2Proof.Machine.execWrAdccfg wdata s
  | .rdRbase => Sys2Proof.Machine.execRdRbase s
  | .wrRbase wdata => Sys2Proof.Machine.execWrRbase wdata s
  | .rdRlen => Sys2Proof.Machine.execRdRlen s
  | .wrRlen wdata => Sys2Proof.Machine.execWrRlen wdata s
  | .rdArr => Sys2Proof.Machine.execRdArr s
  | .wrArr wdata => Sys2Proof.Machine.execWrArr wdata s
  | .rdPsc => Sys2Proof.Machine.execRdPsc s
  | .wrPsc wdata => Sys2Proof.Machine.execWrPsc wdata s
  | .rdCcr => Sys2Proof.Machine.execRdCcr s
  | .wrCcr wdata => Sys2Proof.Machine.execWrCcr wdata s
  | .rdCnt => Sys2Proof.Machine.execRdCnt s
  | .wrCnt wdata => Sys2Proof.Machine.execWrCnt wdata s
  | .rdSr => Sys2Proof.Machine.execRdSr s
  | .wrSr wdata => Sys2Proof.Machine.execWrSr wdata s
  | .rdIer => Sys2Proof.Machine.execRdIer s
  | .wrIer wdata => Sys2Proof.Machine.execWrIer wdata s
  | .rdDr => Sys2Proof.Machine.execRdDr s
  | .wrDr wdata => Sys2Proof.Machine.execWrDr wdata s
  | .rdStat => Sys2Proof.Machine.execRdStat s
  | .wrStat wdata => Sys2Proof.Machine.execWrStat wdata s
  | .rdFilt => Sys2Proof.Machine.execRdFilt s
  | .wrFilt wdata => Sys2Proof.Machine.execWrFilt wdata s
  | .rdOvrcnt => Sys2Proof.Machine.execRdOvrcnt s
  | .wrOvrcnt wdata => Sys2Proof.Machine.execWrOvrcnt wdata s
  | .rdRsv038 k => Sys2Proof.Machine.execRdRsv038 k s
  | .rdRsv040 k => Sys2Proof.Machine.execRdRsv040 k s
  | .rdRsv080 k => Sys2Proof.Machine.execRdRsv080 k s
  | .rdRsv100 k => Sys2Proof.Machine.execRdRsv100 k s
  | .rdRsv200 k => Sys2Proof.Machine.execRdRsv200 k s
  | .wrRsv038 k wdata => Sys2Proof.Machine.execWrRsv038 k wdata s
  | .wrRsv040 k wdata => Sys2Proof.Machine.execWrRsv040 k wdata s
  | .wrRsv080 k wdata => Sys2Proof.Machine.execWrRsv080 k wdata s
  | .wrRsv100 k wdata => Sys2Proof.Machine.execWrRsv100 k wdata s
  | .wrRsv200 k wdata => Sys2Proof.Machine.execWrRsv200 k wdata s
  | .subWord w half off wdata => Sys2Proof.Machine.execSubWord w half off wdata s
  | .oddOffset w off wdata => Sys2Proof.Machine.execOddOffset w off wdata s
  | .twoModFour w off wdata => Sys2Proof.Machine.execTwoModFour w off wdata s
  | .refusedZ1xx rest => Sys2Proof.Machine.execRefusedZ1xx rest s
  | .refusedZ01x rest => Sys2Proof.Machine.execRefusedZ01x rest s
  | .refusedZ001 rest => Sys2Proof.Machine.execRefusedZ001 rest s
  | .refusedSz11 w off => Sys2Proof.Machine.execRefusedSz11 w off s
  | .adcEoc x => Sys2Proof.Machine.execAdcEoc x s
  | .dmaXfer => Sys2Proof.Machine.execDmaXfer s
  | .updStart => Sys2Proof.Machine.execUpdStart s
  | .updDirect => Sys2Proof.Machine.execUpdDirect s
  | .updRead => Sys2Proof.Machine.execUpdRead s
  | .updFinish => Sys2Proof.Machine.execUpdFinish s
  | .timTick => Sys2Proof.Machine.execTimTick s
  | .reset => Sys2Proof.Machine.execReset s
  | .hostMemRd a n => Sys2Proof.Machine.execHostMemRd a n s
  | .hostMemWr a n v => Sys2Proof.Machine.execHostMemWr a n v s
  | .refusedEvt0 => Sys2Proof.Machine.execRefusedEvt0 s
  | .refusedEvtB => Sys2Proof.Machine.execRefusedEvtB s
  | .refusedEvtCF low => Sys2Proof.Machine.execRefusedEvtCF low s

end Sys2Proof.Machine
end

