-- ==== Sys2Proof/Machine/Step.lean ====
section
/-! DEFINITION. One step of the block: the next label is taken, decoded and executed (spec/00_scope.md R18, R19; assumption 1). -/

namespace Sys2Proof.Machine

/-- One step of one agent. A label that spells no operation is refused by name. -/
def step (s : State) : Host.Outcome State Fault Refusal :=
  match decode s.nextInput.label with
  | .ok i => exec i s.fetched
  | .error r => .refused (rejectRefusal r)

/-- The instruction of `nbits` table bits whose bits are `w`, placed as the oldest queued label, so that the next step takes it. -/
def State.withFetchWord (s : State) (nbits w : Nat) : State :=
  { s with inputs := { halted := s.hostHalted, label := Label.ofBits nbits w } :: s.inputs }

end Sys2Proof.Machine
end

