-- ==== Sys2Proof/Safety.lean ====
section
/-! DEFINITION. What a sound state of the block is, and the terms the statements use: the invariants, runs of operations, and the kinds
of operation the whole-machine rules speak of. -/

namespace Sys2Proof.Machine

/-! ### The invariants -/

/-- A ring pass is pending or running. -/
def State.ringPassLive (s : State) : Prop := s.ustate = .updating ∨ (s.trigp = true ∧ s.tkind ≠ .direct)

/-- The transfer engine and the update unit stay inside a legal buffer: while the engine is enabled, or a ring pass is pending or
running, `legal()` holds (spec/42_transfer_engine.md R293, R302, spec/45_update_unit.md R407), and the indexes have the ranges of
spec/10_state.md R48. -/
structure State.GeometryOk (s : State) : Prop where
  enabledLegal : s.ctrl.dmaen = true → s.legal = true ∧ s.widx < s.bufLen
  passLegal : s.ringPassLive → s.legal = true
  running : s.ustate = .updating → s.ucur ≤ s.rlen.toNat ∧ (s.ubase = 0 ∨ (s.ubase = s.rlen.toNat ∧ s.ctrl.pp = true))
  pendingRing1 : s.trigp = true → s.tkind = .ring1 → s.ctrl.pp = true
  widxRange : s.widx ≤ 511
  ucurRange : s.ucur ≤ 256
  ubaseRange : s.ubase ≤ 256

/-- The running timer counts inside its period, with the direction its mode gives (spec/44_actuation_sink.md R362 to R365). -/
def State.TimerOk (s : State) : Prop :=
  s.ctrl.timen = true →
    s.psccnt ≤ s.psc ∧
    (s.arr = 0 → s.cnt = 0 ∧ s.tdir = .up) ∧
    (s.arr ≠ 0 → s.ctrl.cms = false → s.cnt ≤ s.arr ∧ s.tdir = .up) ∧
    (s.arr ≠ 0 → s.ctrl.cms = true → s.tdir = .up → s.cnt < s.arr) ∧
    (s.arr ≠ 0 → s.ctrl.cms = true → s.tdir = .down → 0 < s.cnt ∧ s.cnt ≤ s.arr)

/-- A transfer is requested only of an enabled engine (spec/42_transfer_engine.md R292, R294, R300), an end-of-conversion flag means an
unconsumed value (spec/41_sample_source.md R261, R266), and a transfer error stops the engine (spec/60_exceptions.md R518). -/
structure State.EventsOk (s : State) : Prop where
  requestEnabled : s.dreq = true → s.ctrl.dmaen = true
  eocUnconsumed : s.flag .eoc = true → s.unc = true
  errorStopped : s.flag .teif = true → s.ctrl.dmaen = false

/-- The sum never passes what its slots can hold (spec/43_filter_mapper.md R332). -/
def State.SumOk (s : State) : Prop := s.uacc.toNat ≤ (2 ^ 16 - 1) * s.ucur

/-- The invariant of the block: its memory is canonical and the four facts above hold. -/
structure State.Inv (s : State) : Prop where
  memory : Memory.wf s.mem = true
  geometry : s.GeometryOk
  timer : s.TimerOk
  events : s.EventsOk
  sum : s.SumOk

/-! ### Runs -/

/-- The state after a list of operations, each of which answers a next state. -/
def runOps : List Instr → State → Option State
  | [], s => some s
  | i :: rest, s =>
    match exec i s with
    | .next t => runOps rest t
    | .fault _ => none
    | .refused _ => none

/-- `k` ticks of the timer. -/
def ticks (k : Nat) : List Instr := List.replicate k .timTick

/-- The pin is at its active level (spec/44_actuation_sink.md R367). -/
def State.outputActive (s : State) : Bool := s.pwmOut != s.ctrl.pol

/-- In how many of the states after 0, 1, ..., `k - 1` ticks the pin is active. -/
def activeTicks (k : Nat) (s : State) : Nat :=
  (List.range k).countP (fun n => (runOps (ticks n) s).any State.outputActive)

/-- One whole ring pass of `n` slots: `n + 2` steps (spec/45_update_unit.md R400). -/
def ringPass (n : Nat) : List Instr := .updStart :: (List.replicate n .updRead ++ [.updFinish])

/-- The values of `n` slots of the buffer from slot `base` on. -/
def State.slots (s : State) (base n : Nat) : List Nat :=
  (List.range n).map (fun j => s.mem.read (s.slotAddr (base + j)) 2)

/-! ### Kinds of operation -/

/-- A read of a register, a reserved offset or system memory. -/
def isRead : Instr → Bool
  | .rdCtrl | .rdAdccfg | .rdRbase | .rdRlen | .rdArr | .rdPsc | .rdCcr | .rdCnt | .rdSr | .rdIer | .rdDr | .rdStat | .rdFilt
  | .rdOvrcnt | .rdRsv038 _ | .rdRsv040 _ | .rdRsv080 _ | .rdRsv100 _ | .rdRsv200 _ | .hostMemRd _ _ => true
  | _ => false

/-- The event is enabled (spec/30_encoding.md R144, and the rule of each event); every other operation is enabled in every state
(spec/40_bus_interface.md R200, spec/70_reset_and_hazards.md R600). -/
def State.enabledNow (s : State) : Instr → Bool
  | .adcEoc _ => s.ctrl.aden && !(s.plat.dbgFreeze && s.hostHalted)
  | .dmaXfer => s.ctrl.dmaen && s.dreq
  | .updStart => s.ustate == .idle && s.trigp && s.tkind != .direct && s.ctrl.upden
  | .updDirect => s.ustate == .idle && s.trigp && s.tkind == .direct && s.ctrl.upden
  | .updRead => s.ustate == .updating && decide (s.ucur < s.rlen.toNat)
  | .updFinish => s.ustate == .updating && decide (s.ucur = s.rlen.toNat)
  | .timTick => s.ctrl.timen && !(s.plat.dbgFreeze && s.hostHalted)
  | _ => true

end Sys2Proof.Machine
end

