-- ==== Sys2Proof/Certificates/Slice0/Obligations.lean ====
section
/-! DEFINITION. What is stated of the block, for the provers. Flags are named by their bit in SR (spec/10_state.md R42): EOC 0, OVR 1,
HTIF 2, TCIF 3, TEIF 4, UDF 5, UOVF 6, RNGF 7, CFGE 8, UEVF 9, RWOVF 10. A frame is written as: the next state, with the written fields
put back, is the state before. -/

open Sys2Proof Sys2Proof.Machine

/-! ### Encoding, decoding and the step -/

/-- The decoder gives back every operation the encoder spells (30_encoding.md sections 1 and 2). -/
def Obligations.DecodeOfEncodeIsTheOperation : Prop :=
  ∀ i : Instr, i.wellFormed = true → decode (encode i) = .ok i

/-- R148: every command word and every event code falls in exactly one row of the opcode table, the row of the operation it decodes to. -/
def Obligations.EveryLabelFallsInExactlyOneTableRow : Prop :=
  ∀ (l : Label) (i : Instr), i.tableRow.applies l = true ↔ i.tableRow = (decodeRow l).tableRow

/-- Words written out from the spec decode to their operations (30_encoding.md section 2: `RD CTRL` is 0x0800, `WR CTRL` 0x1800,
`RD SR` 0x0820, `WR SR` 0x1820, `RD DR` 0x0828; 95_test_vectors.md section 2.1 and program P1). -/
def Obligations.SpecWordsDecodeToTheirOperations : Prop :=
  decode (.bus 0x0800 0) = .ok .rdCtrl ∧
  decode (.bus 0x1800 0x197) = .ok (.wrCtrl 0x197) ∧
  decode (.bus 0x0820 0) = .ok .rdSr ∧
  decode (.bus 0x1820 0x7FF) = .ok (.wrSr 0x7FF) ∧
  decode (.bus 0x0828 0) = .ok .rdDr ∧
  decode (.bus 0x1838 5) = .ok (.wrRsv038 0 5) ∧
  decode (.bus 0x0BFC 0) = .ok (.rdRsv200 0x7F) ∧
  decode (.bus 0x0428 0) = .ok (.subWord false true 0x028 0) ∧
  decode (.bus 0x1002 0xFF) = .ok (.subWord true false 0x002 0xFF) ∧
  decode (.bus 0x0801 0) = .ok (.oddOffset false 0 0) ∧
  decode (.bus 0x1802 1) = .ok (.twoModFour true 0 1) ∧
  decode (.evt 0x1 0x3E8 0 0 0) = .ok (.adcEoc 1000) ∧
  decode (.evt 0x2 0 0 0 0) = .ok .dmaXfer ∧
  decode (.evt 0x6 0 0 0 0) = .ok .updFinish ∧
  decode (.evt 0x7 0 0 0 0) = .ok .timTick ∧
  decode (.evt 0x8 0 0 0 0) = .ok .reset ∧
  decode (.evt 0x9 0 0x20000100 4 0) = .ok (.hostMemRd 0x20000100 4) ∧
  decode (.evt 0xA 0 0x20000100 2 0xFFFF) = .ok (.hostMemWr 0x20000100 2 0xFFFF)

/-- The refused forms of 30_encoding.md R150 have no step in any state: command words with `Z != 000` or `SZ = 11`, the codes 0x0 and
0xB to 0xF, a sample outside `R` bits and an access size other than 1, 2, 4. How they are refused is the model's choice, assumption 12:
where R150 has the decoder report a form as invalid, here a refused word decodes to its own row and running that row is refused by name,
and an operand out of range is rejected by the decoder and refused by `exec` under the same name. -/
def Obligations.RefusedFormsHaveNoStep : Prop :=
  (∀ (cmd : BitVec 16) (d : Word) (s : State), cmd.extractLsb' 13 3 ≠ 0 →
    ∃ i, decode (.bus cmd d) = .ok i ∧ exec i s = .refused .reservedZ) ∧
  (∀ (cmd : BitVec 16) (d : Word) (s : State), cmd.extractLsb' 13 3 = 0 → cmd.extractLsb' 10 2 = 3 →
    ∃ i, decode (.bus cmd d) = .ok i ∧ exec i s = .refused .reservedSize) ∧
  (∀ (e : BitVec 4) (x : Nat) (a : Word) (n : Nat) (v : Word) (s : State), (e = 0 ∨ 0xB ≤ e) →
    ∃ i, decode (.evt e x a n v) = .ok i ∧ exec i s = .refused .reservedEvent) ∧
  (∀ (x : Nat) (a : Word) (n : Nat) (v : Word) (s : State), 2 ^ 12 ≤ x →
    decode (.evt 0x1 x a n v) = .error .sampleOutOfRange ∧ exec (.adcEoc x) s = .refused .sampleOutOfRange) ∧
  (∀ (x : Nat) (a : Word) (n : Nat) (v : Word) (s : State), n ≠ 1 → n ≠ 2 → n ≠ 4 →
    decode (.evt 0x9 x a n v) = .error .badAccessSize ∧ exec (.hostMemRd a n) s = .refused .badAccessSize ∧
    decode (.evt 0xA x a n v) = .error .badAccessSize ∧ exec (.hostMemWr a n v) s = .refused .badAccessSize) ∧
  (∀ (s : State) (p : BitVec 15) (q : BitVec 14) (r : BitVec 13) (w : Bool) (off : BitVec 10) (low : BitVec 2),
    exec (.refusedZ1xx p) s = .refused .reservedZ ∧ exec (.refusedZ01x q) s = .refused .reservedZ ∧
    exec (.refusedZ001 r) s = .refused .reservedZ ∧ exec (.refusedSz11 w off) s = .refused .reservedSize ∧
    exec .refusedEvt0 s = .refused .reservedEvent ∧ exec .refusedEvtB s = .refused .reservedEvent ∧
    exec (.refusedEvtCF low) s = .refused .reservedEvent)

/-- A step takes the oldest queued input (or, with none queued, the free one of this step), and runs the operation its label decodes to
in the state with the input taken, the host's halt as the input says and the step counted; a rejected label is refused by name. -/
def Obligations.StepRunsTheDecodedOperation : Prop :=
  (∀ (s : State) (inp : Input) (rest : List Input) (i : Instr), s.inputs = inp :: rest → decode inp.label = .ok i →
    step s = exec i { s with hostHalted := inp.halted, inputs := rest, stepNo := s.stepNo + 1 }) ∧
  (∀ (s : State) (inp : Input) (rest : List Input), s.inputs = inp :: rest →
    (decode inp.label = .error .sampleOutOfRange → step s = .refused .sampleOutOfRange) ∧
    (decode inp.label = .error .badAccessSize → step s = .refused .badAccessSize)) ∧
  (∀ s : State, s.inputs = [] → step s = step { s with inputs := [Config.freeInput s.stepNo] })

/-- The word the host places is the operation the very next step runs. -/
def Obligations.PlacedWordIsTheNextStep : Prop :=
  ∀ (s : State) (nbits w : Nat) (i : Instr), decodeTableWord nbits w = some i →
    step (s.withFetchWord nbits w) = exec i { s with stepNo := s.stepNo + 1 }

/-! ### Register reads -/

/-- R207: `RD CTRL` (0x0800) answers the nine fields in bits 8:0 and zeros above, and changes nothing else. -/
def Obligations.ReadCtrlAnswersItsFields : Prop :=
  ∀ (s : State) (d : Word), decode (.bus 0x0800 d) = .ok .rdCtrl ∧
    ∃ v : Word, exec .rdCtrl s = .next { s with resp := .okayData v } ∧
      v.getLsbD 0 = s.ctrl.aden ∧ v.getLsbD 1 = s.ctrl.mode ∧ v.getLsbD 2 = s.ctrl.dmaen ∧ v.getLsbD 3 = s.ctrl.pp ∧
      v.getLsbD 4 = s.ctrl.timen ∧ v.getLsbD 5 = s.ctrl.cms ∧ v.getLsbD 6 = s.ctrl.pol ∧ v.getLsbD 7 = s.ctrl.oe ∧
      v.getLsbD 8 = s.ctrl.upden ∧ (∀ k, 9 ≤ k → v.getLsbD k = false) ∧ (s = State.reset → v = 0x0000000A)

/-- R209, R211, R213, R215, R217: the configuration registers read as their fields, zeros elsewhere, with no side effect. -/
def Obligations.ReadConfigurationAnswersItsFields : Prop :=
  ∀ (s : State) (d : Word),
    (decode (.bus 0x0804 d) = .ok .rdAdccfg ∧ ∃ v : Word, exec .rdAdccfg s = .next { s with resp := .okayData v } ∧
      v.toNat = s.adccfg.smp.toNat * 2 ^ 8 + s.adccfg.chsel.toNat ∧ (s = State.reset → v = 0x00000700)) ∧
    (decode (.bus 0x0808 d) = .ok .rdRbase ∧ exec .rdRbase s = .next { s with resp := .okayData s.rbase } ∧
      State.reset.rbase = 0x00000000) ∧
    (decode (.bus 0x080C d) = .ok .rdRlen ∧ ∃ v : Word, exec .rdRlen s = .next { s with resp := .okayData v } ∧
      v.toNat = s.rlen.toNat ∧ (s = State.reset → v = 0x00000008)) ∧
    (decode (.bus 0x0810 d) = .ok .rdArr ∧ ∃ v : Word, exec .rdArr s = .next { s with resp := .okayData v } ∧
      v.toNat = s.arr.toNat ∧ (s = State.reset → v = 0x000003E7)) ∧
    (decode (.bus 0x0814 d) = .ok .rdPsc ∧ ∃ v : Word, exec .rdPsc s = .next { s with resp := .okayData v } ∧
      v.toNat = s.psc.toNat ∧ (s = State.reset → v = 0x00000000))

/-- R219, R221, R223, R225, R233: CCR (the preload), CNT, SR, IER and OVRCNT read as their values, with no side effect. -/
def Obligations.ReadStatusAnswersItsValue : Prop :=
  ∀ (s : State) (d : Word),
    (decode (.bus 0x0818 d) = .ok .rdCcr ∧ ∃ v : Word, exec .rdCcr s = .next { s with resp := .okayData v } ∧
      v.toNat = s.ccr.toNat) ∧
    (decode (.bus 0x081C d) = .ok .rdCnt ∧ ∃ v : Word, exec .rdCnt s = .next { s with resp := .okayData v } ∧
      v.toNat = s.cnt.toNat) ∧
    (decode (.bus 0x0820 d) = .ok .rdSr ∧ ∃ v : Word, exec .rdSr s = .next { s with resp := .okayData v } ∧
      v.toNat = s.sr.toNat) ∧
    (decode (.bus 0x0824 d) = .ok .rdIer ∧ ∃ v : Word, exec .rdIer s = .next { s with resp := .okayData v } ∧
      v.toNat = s.ier.toNat) ∧
    (decode (.bus 0x0834 d) = .ok .rdOvrcnt ∧ ∃ v : Word, exec .rdOvrcnt s = .next { s with resp := .okayData v } ∧
      v.toNat = s.ovrcnt.toNat)

/-- R229: `RD STAT` (0x082C) is WIDX with UBUSY, TRIGP, TDIR, UNC, DREQ and UHALF at bits 16 to 21. WIDX is in its field's range
(R48 gives it 0 to 511). -/
def Obligations.ReadStatAnswersTheHiddenState : Prop :=
  ∀ (s : State) (d : Word), s.widx < 2 ^ 10 → decode (.bus 0x082C d) = .ok .rdStat ∧
    ∃ v : Word, exec .rdStat s = .next { s with resp := .okayData v } ∧
      v.toNat = s.widx + 2 ^ 16 * (decide (s.ustate = .updating)).toNat + 2 ^ 17 * s.trigp.toNat
        + 2 ^ 18 * (decide (s.tdir = .down)).toNat + 2 ^ 19 * s.unc.toNat + 2 ^ 20 * s.dreq.toNat
        + 2 ^ 21 * (decide (s.ubase ≠ 0)).toNat

/-- R231: `RD FILT` (0x0830) is DUTY in bits 31:16 and FVAL in bits 11:0, with no side effect. -/
def Obligations.ReadFiltAnswersTheLastPass : Prop :=
  ∀ (s : State) (d : Word), decode (.bus 0x0830 d) = .ok .rdFilt ∧
    ∃ v : Word, exec .rdFilt s = .next { s with resp := .okayData v } ∧
      v.toNat = s.filt.duty.toNat * 2 ^ 16 + s.filt.fval.toNat

/-- R227: `RD DR` (0x0828) answers DR and consumes it: UNC and EOC become 0, and nothing else changes; with both already 0 nothing
changes at all. -/
def Obligations.ReadDrConsumesTheSample : Prop :=
  ∀ (s : State) (d : Word), decode (.bus 0x0828 d) = .ok .rdDr ∧
    ∃ t, exec .rdDr s = .next t ∧ (∃ v : Word, t.resp = .okayData v ∧ v.toNat = s.dr.toNat) ∧ t.unc = false ∧
      t.sr.getLsbD 0 = false ∧ (∀ k, k ≠ 0 → t.sr.getLsbD k = s.sr.getLsbD k) ∧
      { t with resp := s.resp, unc := s.unc, sr := s.sr } = s ∧
      (s.unc = false → s.sr.getLsbD 0 = false → { t with resp := s.resp } = s)

/-- R108: a read of any register but DR, of a reserved offset or of memory has no side effect, and a read of DR has one. -/
def Obligations.OnlyTheReadOfDrHasASideEffect : Prop :=
  (∀ (i : Instr) (s t : State), isRead i = true → i ≠ .rdDr → exec i s = .next t → { t with resp := s.resp } = s) ∧
  (∀ s t : State, exec .rdDr s = .next t → t.unc = false ∧ t.sr.getLsbD 0 = false) ∧
  (∃ s t : State, exec .rdDr s = .next t ∧ { t with resp := s.resp } ≠ s)

/-! ### Register writes -/

/-- R205, R206 for a CTRL write (R208 steps 1, 2 and 5): the locked fields keep their values, the others take the written ones, bits 31:9
are dropped, and CFGE is set where a lock turned a new value away (or an enable of the transfer engine is refused, R292) and otherwise
stays. The registers the write does not name are unchanged. -/
def Obligations.WriteCtrlSetsItsFieldsUnderTheLocks : Prop :=
  ∀ (s : State) (d : Word), decode (.bus 0x1800 d) = .ok (.wrCtrl d) ∧
    ∃ t, exec (.wrCtrl d) s = .next t ∧ t.resp = .okay ∧
      t.ctrl.aden = d.getLsbD 0 ∧ t.ctrl.timen = d.getLsbD 4 ∧ t.ctrl.oe = d.getLsbD 7 ∧ t.ctrl.upden = d.getLsbD 8 ∧
      (let live := s.ustate = .updating ∨ s.trigp = true
       let modeLock := (s.ctrl.aden = true ∧ d.getLsbD 0 = true) ∨ live
       let ppLock := (s.ctrl.dmaen = true ∧ d.getLsbD 2 = true) ∨ live
       let timLock := s.ctrl.timen = true ∧ d.getLsbD 4 = true
       (modeLock → t.ctrl.mode = s.ctrl.mode) ∧ (¬ modeLock → t.ctrl.mode = d.getLsbD 1) ∧
       (ppLock → t.ctrl.pp = s.ctrl.pp) ∧ (¬ ppLock → t.ctrl.pp = d.getLsbD 3) ∧
       (timLock → t.ctrl.cms = s.ctrl.cms ∧ t.ctrl.pol = s.ctrl.pol) ∧
       (¬ timLock → t.ctrl.cms = d.getLsbD 5 ∧ t.ctrl.pol = d.getLsbD 6) ∧
       (t.sr.getLsbD 8 = true ↔
          s.sr.getLsbD 8 = true ∨ (modeLock ∧ d.getLsbD 1 ≠ s.ctrl.mode) ∨ (ppLock ∧ d.getLsbD 3 ≠ s.ctrl.pp) ∨
            (timLock ∧ (d.getLsbD 5 ≠ s.ctrl.cms ∨ d.getLsbD 6 ≠ s.ctrl.pol)) ∨
            (s.ctrl.dmaen = false ∧ d.getLsbD 2 = true ∧ s.sr.getLsbD 4 = true))) ∧
      { t with ctrl := s.ctrl, sr := s.sr, cnt := s.cnt, psccnt := s.psccnt, tdir := s.tdir, ccra := s.ccra, widx := s.widx,
               dreq := s.dreq, resp := s.resp } = s

/-- R360, R361 (R208 step 3): a CTRL write that enables the timer starts it at 0, up, with the preload in the comparator; any other CTRL
write leaves the timer's state as it is, and UEVF is not touched. -/
def Obligations.WriteCtrlStartsAndStopsTheTimer : Prop :=
  ∀ (s : State) (d : Word), ∃ t, exec (.wrCtrl d) s = .next t ∧ t.ctrl.timen = d.getLsbD 4 ∧
    (s.ctrl.timen = false → d.getLsbD 4 = true → t.cnt = 0 ∧ t.psccnt = 0 ∧ t.tdir = .up ∧ t.ccra = s.ccr) ∧
    (s.ctrl.timen = true ∨ d.getLsbD 4 = false →
      t.cnt = s.cnt ∧ t.psccnt = s.psccnt ∧ t.tdir = s.tdir ∧ t.ccra = s.ccra) ∧
    t.sr.getLsbD 9 = s.sr.getLsbD 9

/-- R292, R293, R294 (R208 step 4): enabling the transfer engine is refused with CFGE while TEIF is set, fails with TEIF on a buffer that
is not legal with the PP this write leaves, and otherwise starts at slot 0 with no request; disabling drops the request and keeps WIDX;
writing the bit it has does nothing. The flags other than TEIF and CFGE are unchanged. -/
def Obligations.WriteCtrlEnablesTheTransferEngine : Prop :=
  ∀ (s : State) (d : Word), ∃ t, exec (.wrCtrl d) s = .next t ∧
    (let len := if t.ctrl.pp then 2 * s.rlen.toNat else s.rlen.toNat
     let legal := 1 ≤ s.rlen.toNat ∧ s.rlen.toNat ≤ 256 ∧ s.rbase.toNat % 2 = 0 ∧ s.plat.ramLo.toNat ≤ s.rbase.toNat ∧
       s.rbase.toNat + 2 * len - 1 ≤ s.plat.ramHi.toNat
     (s.ctrl.dmaen = false → d.getLsbD 2 = true → s.sr.getLsbD 4 = true →
       t.ctrl.dmaen = false ∧ t.sr.getLsbD 8 = true ∧ t.sr.getLsbD 4 = true ∧ t.widx = s.widx ∧ t.dreq = s.dreq) ∧
     (s.ctrl.dmaen = false → d.getLsbD 2 = true → s.sr.getLsbD 4 = false → ¬ legal →
       t.ctrl.dmaen = false ∧ t.sr.getLsbD 4 = true ∧ t.widx = s.widx ∧ t.dreq = s.dreq) ∧
     (s.ctrl.dmaen = false → d.getLsbD 2 = true → s.sr.getLsbD 4 = false → legal →
       t.ctrl.dmaen = true ∧ t.sr.getLsbD 4 = false ∧ t.widx = 0 ∧ t.dreq = false) ∧
     (s.ctrl.dmaen = true → d.getLsbD 2 = false →
       t.ctrl.dmaen = false ∧ t.sr.getLsbD 4 = s.sr.getLsbD 4 ∧ t.widx = s.widx ∧ t.dreq = false) ∧
     (s.ctrl.dmaen = d.getLsbD 2 →
       t.ctrl.dmaen = s.ctrl.dmaen ∧ t.sr.getLsbD 4 = s.sr.getLsbD 4 ∧ t.widx = s.widx ∧ t.dreq = s.dreq)) ∧
    (∀ k, k ≠ 4 → k ≠ 8 → t.sr.getLsbD k = s.sr.getLsbD k) ∧ t.unc = s.unc ∧ t.trigp = s.trigp ∧ t.ustate = s.ustate

/-- R210: `WR ADCCFG` (0x1804): while the converter runs, each field keeps its value and a new value sets CFGE; otherwise both take
WDATA[4:0] and WDATA[10:8]. -/
def Obligations.WriteAdccfgUnderTheAdcLock : Prop :=
  ∀ (s : State) (d : Word), decode (.bus 0x1804 d) = .ok (.wrAdccfg d) ∧
    (s.ctrl.aden = false → ∃ ch sm, exec (.wrAdccfg d) s = .next { s with adccfg := { chsel := ch, smp := sm }, resp := .okay } ∧
      ch.toNat = d.toNat % 2 ^ 5 ∧ sm.toNat = d.toNat / 2 ^ 8 % 2 ^ 3) ∧
    (s.ctrl.aden = true → d.toNat % 2 ^ 5 = s.adccfg.chsel.toNat → d.toNat / 2 ^ 8 % 2 ^ 3 = s.adccfg.smp.toNat →
      exec (.wrAdccfg d) s = .next { s with resp := .okay }) ∧
    (s.ctrl.aden = true → d.toNat % 2 ^ 5 ≠ s.adccfg.chsel.toNat ∨ d.toNat / 2 ^ 8 % 2 ^ 3 ≠ s.adccfg.smp.toNat →
      exec (.wrAdccfg d) s = .next { s with sr := s.sr ||| 0x100, resp := .okay })

/-- R212, R214: `WR RBASE` (0x1808) and `WR RLEN` (0x180C) under the DMA lock: locked while the engine is enabled or a pass is pending
or running. -/
def Obligations.WriteRingRegistersUnderTheDmaLock : Prop :=
  ∀ (s : State) (d : Word), decode (.bus 0x1808 d) = .ok (.wrRbase d) ∧ decode (.bus 0x180C d) = .ok (.wrRlen d) ∧
    (let locked := s.ctrl.dmaen = true ∨ s.ustate = .updating ∨ s.trigp = true
     (¬ locked → exec (.wrRbase d) s = .next { s with rbase := d, resp := .okay }) ∧
     (locked → d = s.rbase → exec (.wrRbase d) s = .next { s with resp := .okay }) ∧
     (locked → d ≠ s.rbase → exec (.wrRbase d) s = .next { s with sr := s.sr ||| 0x100, resp := .okay }) ∧
     (¬ locked → ∃ n, exec (.wrRlen d) s = .next { s with rlen := n, resp := .okay } ∧ n.toNat = d.toNat % 2 ^ 9) ∧
     (locked → d.toNat % 2 ^ 9 = s.rlen.toNat → exec (.wrRlen d) s = .next { s with resp := .okay }) ∧
     (locked → d.toNat % 2 ^ 9 ≠ s.rlen.toNat → exec (.wrRlen d) s = .next { s with sr := s.sr ||| 0x100, resp := .okay }))

/-- R216, R218: `WR ARR` (0x1810) and `WR PSC` (0x1814) under the TIM lock: locked while the timer is enabled. -/
def Obligations.WriteTimerRegistersUnderTheTimLock : Prop :=
  ∀ (s : State) (d : Word), decode (.bus 0x1810 d) = .ok (.wrArr d) ∧ decode (.bus 0x1814 d) = .ok (.wrPsc d) ∧
    (s.ctrl.timen = false → ∃ v, exec (.wrArr d) s = .next { s with arr := v, resp := .okay } ∧ v.toNat = d.toNat % 2 ^ 16) ∧
    (s.ctrl.timen = true → d.toNat % 2 ^ 16 = s.arr.toNat → exec (.wrArr d) s = .next { s with resp := .okay }) ∧
    (s.ctrl.timen = true → d.toNat % 2 ^ 16 ≠ s.arr.toNat →
      exec (.wrArr d) s = .next { s with sr := s.sr ||| 0x100, resp := .okay }) ∧
    (s.ctrl.timen = false → ∃ v, exec (.wrPsc d) s = .next { s with psc := v, resp := .okay } ∧ v.toNat = d.toNat % 2 ^ 16) ∧
    (s.ctrl.timen = true → d.toNat % 2 ^ 16 = s.psc.toNat → exec (.wrPsc d) s = .next { s with resp := .okay }) ∧
    (s.ctrl.timen = true → d.toNat % 2 ^ 16 ≠ s.psc.toNat →
      exec (.wrPsc d) s = .next { s with sr := s.sr ||| 0x100, resp := .okay })

/-- R220: `WR CCR` (0x1818) stores WDATA[15:0] in the preload register while UPDEN is 0; while UPDEN is 1 it is ignored with CFGE,
whatever the value. The active compare value does not change. -/
def Obligations.WriteCcrOnlyWithoutTheUpdateUnit : Prop :=
  ∀ (s : State) (d : Word), decode (.bus 0x1818 d) = .ok (.wrCcr d) ∧
    (s.ctrl.upden = true → exec (.wrCcr d) s = .next { s with sr := s.sr ||| 0x100, resp := .okay }) ∧
    (s.ctrl.upden = false → ∃ v, exec (.wrCcr d) s = .next { s with ccr := v, resp := .okay } ∧ v.toNat = d.toNat % 2 ^ 16)

/-- R222, R228, R230, R232: writes to CNT, DR, STAT and FILT complete and change nothing. -/
def Obligations.WritesToReadOnlyRegistersAreIgnored : Prop :=
  ∀ (s : State) (d : Word),
    (decode (.bus 0x181C d) = .ok (.wrCnt d) ∧ exec (.wrCnt d) s = .next { s with resp := .okay }) ∧
    (decode (.bus 0x1828 d) = .ok (.wrDr d) ∧ exec (.wrDr d) s = .next { s with resp := .okay }) ∧
    (decode (.bus 0x182C d) = .ok (.wrStat d) ∧ exec (.wrStat d) s = .next { s with resp := .okay }) ∧
    (decode (.bus 0x1830 d) = .ok (.wrFilt d) ∧ exec (.wrFilt d) s = .next { s with resp := .okay })

/-- R224: `WR SR` (0x1820) clears exactly the flags written as 1; UNC and TRIGP stay. -/
def Obligations.WriteSrClearsTheFlagsWrittenAsOne : Prop :=
  ∀ (s : State) (d : Word), decode (.bus 0x1820 d) = .ok (.wrSr d) ∧
    ∃ t, exec (.wrSr d) s = .next t ∧ (∀ k, k < 11 → t.sr.getLsbD k = (s.sr.getLsbD k && !d.getLsbD k)) ∧ t.resp = .okay ∧
      { t with sr := s.sr, resp := s.resp } = s

/-- R226, R234: `WR IER` (0x1824) takes WDATA[10:0]; `WR OVRCNT` (0x1834) clears the count whatever is written, and leaves OVR. -/
def Obligations.WriteIerAndOvrcnt : Prop :=
  ∀ (s : State) (d : Word),
    (decode (.bus 0x1824 d) = .ok (.wrIer d) ∧
      ∃ e, exec (.wrIer d) s = .next { s with ier := e, resp := .okay } ∧ e.toNat = d.toNat % 2 ^ 11) ∧
    (decode (.bus 0x1834 d) = .ok (.wrOvrcnt d) ∧ exec (.wrOvrcnt d) s = .next { s with ovrcnt := 0, resp := .okay })

/-- R203: a word access to a reserved offset 0x038 to 0x3FC completes with OKAY; a read returns 0, a write changes nothing. -/
def Obligations.ReservedOffsetsReadZeroAndIgnoreWrites : Prop :=
  (∀ (off : BitVec 10) (d : Word) (s : State), 0x038 ≤ off.toNat → off.toNat % 4 = 0 →
    (∃ i, decode (.bus (0x0800 ||| off.setWidth 16) d) = .ok i ∧ exec i s = .next { s with resp := .okayData 0 }) ∧
    (∃ i, decode (.bus (0x1800 ||| off.setWidth 16) d) = .ok i ∧ exec i s = .next { s with resp := .okay })) ∧
  (∀ (s : State) (d : Word) (a : BitVec 1) (b : BitVec 4) (c : BitVec 5) (e : BitVec 6) (f : BitVec 7),
    (exec (.rdRsv038 a) s = .next { s with resp := .okayData 0 } ∧ exec (.rdRsv040 b) s = .next { s with resp := .okayData 0 } ∧
     exec (.rdRsv080 c) s = .next { s with resp := .okayData 0 } ∧ exec (.rdRsv100 e) s = .next { s with resp := .okayData 0 } ∧
     exec (.rdRsv200 f) s = .next { s with resp := .okayData 0 }) ∧
    (exec (.wrRsv038 a d) s = .next { s with resp := .okay } ∧ exec (.wrRsv040 b d) s = .next { s with resp := .okay } ∧
     exec (.wrRsv080 c d) s = .next { s with resp := .okay } ∧ exec (.wrRsv100 e d) s = .next { s with resp := .okay } ∧
     exec (.wrRsv200 f d) s = .next { s with resp := .okay }))

/-- R201, R202: sub-word accesses and misaligned word accesses answer BusError and change nothing in the block. -/
def Obligations.MalformedAccessesAnswerBusError : Prop :=
  (∀ (cmd : BitVec 16) (d : Word) (s : State), cmd.extractLsb' 13 3 = 0 →
    (cmd.extractLsb' 10 2 = 0 ∨ cmd.extractLsb' 10 2 = 1 ∨ (cmd.extractLsb' 10 2 = 2 ∧ cmd.extractLsb' 0 2 ≠ 0)) →
    ∃ i, decode (.bus cmd d) = .ok i ∧ exec i s = .next { s with resp := .busError }) ∧
  (∀ (s : State) (w h : Bool) (o : BitVec 10) (p : BitVec 9) (q : BitVec 8) (d : Word),
    exec (.subWord w h o d) s = .next { s with resp := .busError } ∧
    exec (.oddOffset w p d) s = .next { s with resp := .busError } ∧
    exec (.twoModFour w q d) s = .next { s with resp := .busError })

/-! ### Events -/

/-- An event that is not enabled is no step: the state stays as it is. That the state stays (and the label is passed over) is the model's
form of R144's "no transition", assumption 2. -/
def Obligations.EventsNotEnabledChangeNothing : Prop :=
  ∀ (s : State) (i : Instr), i.wellFormed = true → s.enabledNow i = false → exec i s = .next s

/-- R261: a conversion overwrites DR, sets UNC and EOC, reports an overrun of an unconsumed value in OVR and the saturating OVRCNT,
requests a transfer in buffered mode with the engine enabled, and triggers a direct pass in direct mode with the update unit enabled. -/
def Obligations.ConversionDepositsTheSample : Prop :=
  ∀ (s : State) (x : Nat), x < 2 ^ 12 → s.enabledNow (.adcEoc x) = true →
    ∃ t, exec (.adcEoc x) s = .next t ∧ t.dr.toNat = x ∧ t.unc = true ∧ t.sr.getLsbD 0 = true ∧
      t.sr.getLsbD 1 = (s.sr.getLsbD 1 || s.unc) ∧
      t.ovrcnt.toNat = (if s.unc then min (s.ovrcnt.toNat + 1) 0xFFFF else s.ovrcnt.toNat) ∧
      t.dreq = (s.dreq || (s.ctrl.mode && s.ctrl.dmaen)) ∧
      (let direct := s.ctrl.mode = false ∧ s.ctrl.upden = true
       (direct → t.trigp = true ∧ t.tkind = .direct ∧
         t.sr.getLsbD 6 = (s.sr.getLsbD 6 || s.trigp || decide (s.ustate = .updating))) ∧
       (¬ direct → t.trigp = s.trigp ∧ t.tkind = s.tkind ∧ t.sr.getLsbD 6 = s.sr.getLsbD 6)) ∧
      (∀ k, k ≠ 0 → k ≠ 1 → k ≠ 6 → t.sr.getLsbD k = s.sr.getLsbD k) ∧
      { t with dr := s.dr, unc := s.unc, sr := s.sr, ovrcnt := s.ovrcnt, dreq := s.dreq, trigp := s.trigp, tkind := s.tkind } = s

/-- R105, R303 (with R295; the order of the two bytes is R17's, assumption 20): a transfer takes DR, stores it as the little-endian
halfword of slot WIDX at RBASE + 2*WIDX, drops the request and advances WIDX, wrapping to 0 after L() slots. Every other byte of memory
reads as before. -/
def Obligations.TransferStoresTheSampleInItsSlot : Prop :=
  ∀ s : State, s.enabledNow .dmaXfer = true → s.memOK (s.slotAddr s.widx) 2 = true →
    ∃ t, exec .dmaXfer s = .next t ∧
      s.slotAddr s.widx = s.rbase.toNat + 2 * s.widx ∧
      (t.mem.byteAt (s.slotAddr s.widx)).toNat = s.dr.toNat % 2 ^ 8 ∧
      (t.mem.byteAt (s.slotAddr s.widx + 1)).toNat = s.dr.toNat / 2 ^ 8 ∧
      (∀ a, a ≠ s.slotAddr s.widx → a ≠ s.slotAddr s.widx + 1 → t.mem.byteAt a = s.mem.byteAt a) ∧
      t.unc = false ∧ t.sr.getLsbD 0 = false ∧ t.dreq = false ∧
      t.widx = (if s.widx + 1 = (if s.ctrl.pp then 2 * s.rlen.toNat else s.rlen.toNat) then 0 else s.widx + 1) ∧
      { t with mem := s.mem, unc := s.unc, sr := s.sr, dreq := s.dreq, widx := s.widx, trigp := s.trigp, tkind := s.tkind } = s

/-- R296, R297, R298 with R401: the transfer that completes slot h() sets HTIF, the one that completes slot L() sets TCIF; with the update
unit enabled, TC triggers RING0 in single-buffer mode and RING1 in ping-pong mode, HT triggers RING0 in ping-pong mode only; a trigger
that finds a pass pending or running sets UOVF, and the latest one wins. -/
def Obligations.TransferRaisesItsEventsAndTriggers : Prop :=
  ∀ s : State, s.enabledNow .dmaXfer = true → s.memOK (s.slotAddr s.widx) 2 = true →
    ∃ t, exec .dmaXfer s = .next t ∧
      (let len := if s.ctrl.pp then 2 * s.rlen.toNat else s.rlen.toNat
       let ht := decide (s.widx + 1 = max 1 (len / 2))
       let tc := decide (s.widx + 1 = len)
       let trigH := ht && s.ctrl.pp && s.ctrl.upden
       let trigC := tc && s.ctrl.upden
       let live := s.trigp || decide (s.ustate = .updating)
       t.sr.getLsbD 2 = (s.sr.getLsbD 2 || ht) ∧
       t.sr.getLsbD 3 = (s.sr.getLsbD 3 || tc) ∧
       t.widx = (if tc then 0 else s.widx + 1) ∧
       t.trigp = (s.trigp || trigH || trigC) ∧
       t.tkind = (if trigC then (if s.ctrl.pp then .ring1 else .ring0) else if trigH then .ring0 else s.tkind) ∧
       t.sr.getLsbD 6 = (s.sr.getLsbD 6 || (trigH && live) || (trigC && (live || trigH)))) ∧
      (∀ k, k ≠ 0 → k ≠ 2 → k ≠ 3 → k ≠ 6 → k ≠ 10 → t.sr.getLsbD k = s.sr.getLsbD k)

/-- R299: a transfer sets RWOVF exactly when the slot it writes is one the running pass has yet to read, or one a pending ring pass will
read; otherwise RWOVF stays. The write happens in every case. -/
def Obligations.TransferReportsATornRead : Prop :=
  ∀ s : State, s.enabledNow .dmaXfer = true → s.memOK (s.slotAddr s.widx) 2 = true →
    ∃ t, exec .dmaXfer s = .next t ∧
      (let n := s.rlen.toNat
       let base := if s.tkind = .ring1 then n else 0
       let torn := (s.ustate = .updating ∧ s.ubase + s.ucur ≤ s.widx ∧ s.widx < s.ubase + n) ∨
         (s.trigp = true ∧ s.tkind ≠ .direct ∧ base ≤ s.widx ∧ s.widx < base + n)
       (torn → t.sr.getLsbD 10 = true) ∧ (¬ torn → t.sr.getLsbD 10 = s.sr.getLsbD 10)) ∧
      t.mem = s.mem.write (s.slotAddr s.widx) 2 s.dr.toNat

/-- R301 with R300: a transfer whose memory access would fail is not done: TEIF is set, the engine is disabled, the request is dropped,
and nothing else changes: not DR, not UNC, not WIDX, no byte of memory. -/
def Obligations.TransferErrorStopsTheEngine : Prop :=
  ∀ s : State, s.enabledNow .dmaXfer = true → s.memOK (s.slotAddr s.widx) 2 = false →
    exec .dmaXfer s = .next { s with sr := s.sr ||| 0x010, ctrl := { s.ctrl with dmaen := false }, dreq := false }

/-- R402: a ring pass starts with its ring's first slot, an empty sum and the pending bit cleared. -/
def Obligations.PassStartTakesTheTrigger : Prop :=
  ∀ s : State, s.enabledNow .updStart = true →
    exec .updStart s = .next { s with ubase := if s.tkind = .ring1 then s.rlen.toNat else 0, ucur := 0, uacc := 0, trigp := false,
                                      ustate := .updating }

/-- R403, R407: one read of a pass adds the halfword of slot UBASE + UCUR to the sum; a read error ends the pass as a transfer error, with
no CCR write and no UDF. -/
def Obligations.PassReadAddsItsSlotOrEndsThePass : Prop :=
  ∀ s : State, s.enabledNow .updRead = true → s.slotAddr (s.ubase + s.ucur) = s.rbase.toNat + 2 * (s.ubase + s.ucur) ∧
    (s.memOK (s.slotAddr (s.ubase + s.ucur)) 2 = true →
      ∃ u : Word, exec .updRead s = .next { s with uacc := u, ucur := s.ucur + 1 } ∧
        u.toNat = (s.uacc.toNat + (s.mem.byteAt (s.slotAddr (s.ubase + s.ucur))).toNat
          + 2 ^ 8 * (s.mem.byteAt (s.slotAddr (s.ubase + s.ucur) + 1)).toNat) % 2 ^ 32) ∧
    (s.memOK (s.slotAddr (s.ubase + s.ucur)) 2 = false →
      exec .updRead s = .next { s with sr := s.sr ||| 0x010, ctrl := { s.ctrl with dmaen := false }, dreq := false, ustate := .idle })

/-- R404: the end of a ring pass writes the clamped mean and its duty to FILT and CCR and sets UDF, and RNGF when it clamps, whatever
UPDEN is. For a window of 0 slots, which no run reaches and R331 gives no mean for, the mean is the free value of assumption 7. -/
def Obligations.PassFinishWritesTheDuty : Prop :=
  ∀ s : State, s.enabledNow .updFinish = true →
    ∃ t, exec .updFinish s = .next t ∧
      (let m := if s.rlen.toNat = 0 then Config.meanOfEmpty s.uacc.toNat else s.uacc.toNat / s.rlen.toNat
       let f := min m 4095
       t.filt.fval.toNat = f ∧ t.filt.duty.toNat = f * (s.arr.toNat + 1) / 2 ^ 12 ∧ t.ccr = t.filt.duty ∧
       t.sr = s.sr ||| 0x020 ||| (if 4095 < m then 0x080 else 0)) ∧
      t.ustate = .idle ∧
      { t with filt := s.filt, ccr := s.ccr, sr := s.sr, ustate := s.ustate } = s

/-- R405: the direct pass consumes DR, maps the sample it holds (which R334 never clamps), and writes FILT and CCR; USTATE stays IDLE. -/
def Obligations.DirectPassMapsTheFreshestSample : Prop :=
  ∀ s : State, s.enabledNow .updDirect = true →
    ∃ t, exec .updDirect s = .next t ∧ t.trigp = false ∧ t.unc = false ∧
      t.filt.fval = s.dr ∧ t.filt.duty.toNat = s.dr.toNat * (s.arr.toNat + 1) / 2 ^ 12 ∧ t.ccr = t.filt.duty ∧
      t.sr.getLsbD 0 = false ∧ t.sr.getLsbD 5 = true ∧ (∀ k, k ≠ 0 → k ≠ 5 → t.sr.getLsbD k = s.sr.getLsbD k) ∧
      { t with trigp := s.trigp, unc := s.unc, filt := s.filt, ccr := s.ccr, sr := s.sr } = s

/-- R362: a tick below the prescaler advances PSCCNT and nothing else; the tick that finds PSCCNT at PSC clears it and counts once, which
moves nothing when ARR is 0 (R365). -/
def Obligations.TickAdvancesThePrescaler : Prop :=
  ∀ s : State, s.enabledNow .timTick = true →
    (s.psccnt.toNat < s.psc.toNat → exec .timTick s = .next { s with psccnt := s.psccnt + 1 }) ∧
    (s.psc.toNat ≤ s.psccnt.toNat → s.arr = 0 → exec .timTick s = .next { s with psccnt := 0 })

/-- R363, R366: in up-counting mode the counter advances, and at ARR it wraps to 0 with an update event, which loads CCRA from CCR and
sets UEVF. -/
def Obligations.UpCountingWrapsAtArr : Prop :=
  ∀ s : State, s.enabledNow .timTick = true → s.psc.toNat ≤ s.psccnt.toNat → s.ctrl.cms = false → 1 ≤ s.arr.toNat →
    (s.arr.toNat ≤ s.cnt.toNat → exec .timTick s = .next { s with psccnt := 0, cnt := 0, ccra := s.ccr, sr := s.sr ||| 0x200 }) ∧
    (s.cnt.toNat < s.arr.toNat →
      ∃ c, exec .timTick s = .next { s with psccnt := 0, cnt := c } ∧ c.toNat = s.cnt.toNat + 1)

/-- R364, R366: in center-aligned mode the counter rises to ARR, turns, falls to 0 and turns there with an update event. The counter is
where R364's pattern keeps it: below ARR while rising, above 0 while falling. -/
def Obligations.CenterAlignedCountingTurnsAtBothEnds : Prop :=
  ∀ s : State, s.enabledNow .timTick = true → s.psc.toNat ≤ s.psccnt.toNat → s.ctrl.cms = true → 1 ≤ s.arr.toNat →
    (s.tdir = .up → s.cnt.toNat < s.arr.toNat →
      ∃ c, exec .timTick s =
        .next { s with psccnt := 0, cnt := c, tdir := if s.cnt.toNat + 1 = s.arr.toNat then .down else .up } ∧
        c.toNat = s.cnt.toNat + 1) ∧
    (s.tdir = .down → 1 < s.cnt.toNat →
      ∃ c, exec .timTick s = .next { s with psccnt := 0, cnt := c } ∧ c.toNat = s.cnt.toNat - 1) ∧
    (s.tdir = .down → s.cnt.toNat = 1 →
      exec .timTick s = .next { s with psccnt := 0, cnt := 0, tdir := .up, ccra := s.ccr, sr := s.sr ||| 0x200 })

/-- R600: RESET, in every state, puts every register and hidden item at its reset value and leaves memory (and the platform and what is
outside the block) as it is. -/
def Obligations.ResetRestoresEveryRegister : Prop :=
  ∀ s : State, exec .reset s =
    .next { State.reset with mem := s.mem, plat := s.plat, hostHalted := s.hostHalted, inputs := s.inputs, stepNo := s.stepNo,
                             resp := s.resp }

/-- R601: the reset values of every register, of every hidden item and of the two outputs. -/
def Obligations.ResetStateHasTheSpecsValues : Prop :=
  let r := State.reset
  r.ctrlWord = 0x0000000A ∧ r.adccfgWord = 0x00000700 ∧ r.rbase = 0 ∧ r.rlenWord = 8 ∧ halfWord r.arr = 0x3E7 ∧ halfWord r.psc = 0 ∧
  halfWord r.ccr = 0 ∧ halfWord r.cnt = 0 ∧ r.srWord = 0 ∧ r.ierWord = 0 ∧ r.drWord = 0 ∧ r.statWord = 0 ∧ r.filtWord = 0 ∧
  halfWord r.ovrcnt = 0 ∧ r.unc = false ∧ r.dreq = false ∧ r.trigp = false ∧ r.widx = 0 ∧ r.ucur = 0 ∧ r.ubase = 0 ∧ r.uacc = 0 ∧
  r.psccnt = 0 ∧ r.ccra = 0 ∧ r.ustate = .idle ∧ r.tkind = .ring0 ∧ r.tdir = .up ∧ r.irq = false ∧ r.pwmOut = false

/-- R115, R116 (the order of the bytes is R17's, assumption 20): a host access of 1, 2 or 4 bytes that MemOK admits reads, or writes,
that many little-endian bytes and touches nothing else; one it does not admit is a host bus error with no change of state. -/
def Obligations.HostMemoryAccesses : Prop :=
  ∀ (s : State) (a : Word) (n : Nat) (v : Word), n = 1 ∨ n = 2 ∨ n = 4 →
    (s.memOK a.toNat n = true →
      exec (.hostMemRd a n) s = .next { s with resp := .memData (BitVec.ofNat 32 (s.mem.read a.toNat n)) } ∧
      ∃ m, exec (.hostMemWr a n v) s = .next { s with mem := m, resp := .memDone } ∧
        (∀ j, j < n → (m.byteAt (a.toNat + j)).toNat = v.toNat / 2 ^ (8 * j) % 2 ^ 8) ∧
        (∀ b, b < a.toNat ∨ a.toNat + n ≤ b → m.byteAt b = s.mem.byteAt b)) ∧
    (s.memOK a.toNat n = false →
      exec (.hostMemRd a n) s = .next { s with resp := .hostBusError } ∧
      exec (.hostMemWr a n v) s = .next { s with resp := .hostBusError })

/-- Memory reads are little-endian (00_scope.md R17; 20_memory.md R103 marks the order as general knowledge, assumption 20): a read of n
bytes is the sum of its bytes, the lowest address the least significant, and what was written is read back. -/
def Obligations.MemoryIsLittleEndian : Prop :=
  (∀ (m : Memory) (a : Nat), m.read a 1 = (m.byteAt a).toNat) ∧
  (∀ (m : Memory) (a : Nat), m.read a 2 = (m.byteAt a).toNat + 2 ^ 8 * (m.byteAt (a + 1)).toNat) ∧
  (∀ (m : Memory) (a : Nat), m.read a 4 = m.read a 2 + 2 ^ 16 * m.read (a + 2) 2) ∧
  (∀ (m : Memory) (a n v : Nat), (m.write a n v).read a n = v % 2 ^ (8 * n))

/-! ### Outputs and functions -/

/-- R502: the request line is the or of the enabled flags, with EOC masked in buffered mode. -/
def Obligations.RequestLineIsTheOrOfEnabledFlags : Prop :=
  ∀ s : State, s.irq = true ↔
    (s.sr.getLsbD 0 = true ∧ s.ier.getLsbD 0 = true ∧ s.ctrl.mode = false) ∨
    ∃ k, 1 ≤ k ∧ k ≤ 10 ∧ s.sr.getLsbD k = true ∧ s.ier.getLsbD k = true

/-- R367: the pin is active while CNT is below CCRA, in the polarity POL, and at the inactive level while OE is 0. -/
def Obligations.PinFollowsTheComparator : Prop :=
  ∀ s : State,
    (s.ctrl.oe = false → s.pwmOut = s.ctrl.pol) ∧
    (s.ctrl.oe = true → s.cnt.toNat < s.ccra.toNat → s.pwmOut = !s.ctrl.pol) ∧
    (s.ctrl.oe = true → s.ccra.toNat ≤ s.cnt.toNat → s.pwmOut = s.ctrl.pol)

/-- R336, R337: the mapper's range, monotonicity and boundaries. -/
def Obligations.MapperLaws : Prop :=
  (∀ f arr : Nat, f ≤ 4095 → dutyMap f arr ≤ arr) ∧
  (∀ f g arr : Nat, f ≤ g → dutyMap f arr ≤ dutyMap g arr) ∧
  (∀ arr : Nat, dutyMap 0 arr = 0) ∧
  (∀ arr : Nat, dutyMap 4095 arr = (arr + 1) - (arr + 1 + 4095) / 4096) ∧
  (∀ arr : Nat, dutyMap 4095 arr = arr ↔ arr + 1 ≤ 4096) ∧
  (∀ f : Nat, f ≤ 4095 → dutyMap f 0 = 0) ∧
  (∀ f : Nat, dutyMap f 4095 = f)

/-- R339: the filter of legal samples is their truncated mean and is itself legal, and the order of the slots does not matter. -/
def Obligations.FilterLaws : Prop :=
  (∀ vs : List Nat, vs ≠ [] → (∀ v ∈ vs, v ≤ 4095) → filterOf vs = vs.sum / vs.length ∧ filterOf vs ≤ 4095) ∧
  (∀ vs ws : List Nat, vs.Perm ws → filterOf vs = filterOf ws) ∧
  (∀ vs : List Nat, filterOf vs ≤ 4095)

/-! ### Rules of the whole block -/

/-- R370: only timer steps write the active compare value: a tick with an update event, or a CTRL write that enables the timer (and
RESET); each loads it from CCR. -/
def Obligations.OnlyTimerStepsWriteTheActiveCompare : Prop :=
  ∀ (i : Instr) (s t : State), exec i s = .next t → t.ccra ≠ s.ccra →
    i = .reset ∨ (i = .timTick ∧ t.ccra = s.ccr ∧ t.sr.getLsbD 9 = true) ∨
    (∃ d, i = .wrCtrl d ∧ s.ctrl.timen = false ∧ d.getLsbD 4 = true ∧ t.ccra = s.ccr)

/-- R504: a flag is cleared only by WR SR with a 1 in its bit, by RESET, and, for EOC, by an operation that consumes DR; clearing flags
does not cancel a pending pass. -/
def Obligations.FlagsAreClearedOnlyOnPurpose : Prop :=
  ∀ (i : Instr) (s t : State), exec i s = .next t →
    (∀ k, s.sr.getLsbD k = true → t.sr.getLsbD k = false →
      i = .reset ∨ (∃ d, i = .wrSr d ∧ d.getLsbD k = true) ∨ (k = 0 ∧ (i = .rdDr ∨ i = .dmaXfer ∨ i = .updDirect))) ∧
    (∀ d, i = .wrSr d → t.trigp = s.trigp ∧ t.tkind = s.tkind)

/-- R304 with R116: memory is written only by a transfer, in the two bytes of its slot, and by the host, in the bytes it names. -/
def Obligations.OnlyTransfersAndTheHostWriteMemory : Prop :=
  ∀ (i : Instr) (s t : State) (a : Nat), exec i s = .next t → t.mem.byteAt a ≠ s.mem.byteAt a →
    (i = .dmaXfer ∧ s.ctrl.dmaen = true ∧ s.dreq = true ∧ s.memOK (s.slotAddr s.widx) 2 = true ∧
      (a = s.slotAddr s.widx ∨ a = s.slotAddr s.widx + 1)) ∨
    (∃ b n v, i = .hostMemWr b n v ∧ s.memOK b.toNat n = true ∧ b.toNat ≤ a ∧ a < b.toNat + n)

/-- CCR is written only by the notifier (10_state.md R40, 20_memory.md R120): a bus write while UPDEN is 0, the end of a pass, or RESET;
FILT only by the end of a pass or RESET. A pass never changes CCR to a value above ARR (a bus write may, R220). -/
def Obligations.OnlyTheNotifierWritesTheCompareRegister : Prop :=
  ∀ (i : Instr) (s t : State), exec i s = .next t →
    (t.ccr ≠ s.ccr → i = .reset ∨ i = .updFinish ∨ i = .updDirect ∨ (∃ d, i = .wrCcr d ∧ s.ctrl.upden = false)) ∧
    (t.filt ≠ s.filt → i = .reset ∨ i = .updFinish ∨ i = .updDirect) ∧
    (i = .updFinish ∨ i = .updDirect → t.ccr ≠ s.ccr → t.ccr.toNat ≤ s.arr.toNat)

/-- R371: while the timer is enabled and stays so, no operation but RESET changes ARR, PSC, CMS or POL. -/
def Obligations.PeriodAndModeAreFixedWhileTheTimerRuns : Prop :=
  ∀ (i : Instr) (s t : State), exec i s = .next t → i ≠ .reset → s.ctrl.timen = true →
    t.arr = s.arr ∧ t.psc = s.psc ∧ (t.ctrl.timen = true → t.ctrl.cms = s.ctrl.cms ∧ t.ctrl.pol = s.ctrl.pol)

/-- R503: IER masks only the request line: what an operation does to everything else does not depend on it. -/
def Obligations.EnablesMaskOnlyTheRequestLine : Prop :=
  ∀ (i : Instr) (s t : State) (e : BitVec 11), i ≠ .rdIer → i ≠ .reset → (∀ d, i ≠ .wrIer d) → exec i s = .next t →
    exec i { s with ier := e } = .next { t with ier := e }

/-- The platform's parameters are fixed (00_scope.md R10), and no operation touches the steps to come, the count of steps or the host's
halt. -/
def Obligations.NoOperationChangesThePlatform : Prop :=
  ∀ (i : Instr) (s t : State), exec i s = .next t →
    t.plat = s.plat ∧ t.inputs = s.inputs ∧ t.stepNo = s.stepNo ∧ t.hostHalted = s.hostHalted

/-! ### Invariants, refinement and periods -/

/-- The invariant holds at reset. -/
def Obligations.ResetMeetsTheInvariant : Prop := State.reset.Inv

/-- Every step keeps the invariant, from every state that meets it: the memory stays canonical, the engine and the passes stay inside a
legal buffer, the timer inside its period, and the flags agree with the hidden state. -/
def Obligations.EveryStepKeepsTheInvariant : Prop :=
  ∀ s t : State, s.Inv → step s = .next t → t.Inv

/-- R302, R332: in a state that meets the invariant, a transfer and a pass read address a slot of the buffer inside [RAM_LO, RAM_HI], at an
even address, and the sum of a pass stays below 2^24, so that its truncation changes nothing. -/
def Obligations.BlockAccessesStayInTheBuffer : Prop :=
  ∀ s : State, s.Inv →
    (s.enabledNow .dmaXfer = true → s.widx < s.bufLen ∧ s.slotAddr s.widx % 2 = 0 ∧
      s.plat.ramLo.toNat ≤ s.slotAddr s.widx ∧ s.slotAddr s.widx + 1 ≤ s.plat.ramHi.toNat) ∧
    (s.enabledNow .updRead = true → s.ubase + s.ucur < s.bufLen ∧ s.slotAddr (s.ubase + s.ucur) % 2 = 0 ∧
      s.plat.ramLo.toNat ≤ s.slotAddr (s.ubase + s.ucur) ∧ s.slotAddr (s.ubase + s.ucur) + 1 ≤ s.plat.ramHi.toNat) ∧
    s.uacc.toNat < 2 ^ 24

/-- R409, R411: a ring pass that no other step interrupts computes the duty of the ring as it stands: its `N + 2` steps all complete and
leave map(filter(slots)) in CCR and FILT, with the slots the trigger's ring and memory untouched. For N = 0, which no run reaches and
R331 gives no mean for, both sides rest on the free mean of assumption 7. -/
def Obligations.UninterruptedRingPassComputesTheDuty : Prop :=
  ∀ s : State, s.enabledNow .updStart = true →
    (∀ j, j < s.rlen.toNat → s.memOK (s.slotAddr (s.ringBase s.tkind + j)) 2 = true) →
    ∃ t, runOps (ringPass s.rlen.toNat) s = some t ∧
      t.filt.fval.toNat = filterOf (s.slots (s.ringBase s.tkind) s.rlen.toNat) ∧
      t.ccr.toNat = dutyMap (filterOf (s.slots (s.ringBase s.tkind) s.rlen.toNat)) s.arr.toNat ∧ t.filt.duty = t.ccr ∧
      t.ustate = .idle ∧ t.trigp = false ∧ t.sr.getLsbD 5 = true ∧ t.mem = s.mem ∧ t.ccra = s.ccra ∧ t.ctrl = s.ctrl

/-- R363, R366, R615: in up-counting mode from CNT = PSCCNT = 0, the counter after n ticks is n div (PSC+1), the comparator's value is the
same in the whole period, and exactly at (ARR+1)*(PSC+1) ticks the counter is back at 0 with CCR in CCRA and UEVF set. -/
def Obligations.UpCountingPeriod : Prop :=
  ∀ s : State, s.enabledNow .timTick = true → s.ctrl.cms = false → 1 ≤ s.arr.toNat → s.cnt = 0 → s.psccnt = 0 →
    (∀ n, n < (s.arr.toNat + 1) * (s.psc.toNat + 1) → ∃ c p, runOps (ticks n) s = some { s with cnt := c, psccnt := p } ∧
      c.toNat = n / (s.psc.toNat + 1) ∧ p.toNat = n % (s.psc.toNat + 1)) ∧
    runOps (ticks ((s.arr.toNat + 1) * (s.psc.toNat + 1))) s = some { s with ccra := s.ccr, sr := s.sr ||| 0x200 }

/-- R364, R366, R615: in center-aligned mode with PSC = 0, from 0 and rising, the counter is n up to ARR and 2*ARR - n after it, and
exactly at 2*ARR ticks it is back at 0, rising, with CCR in CCRA and UEVF set. The period of 2*ARR*(PSC+1) ticks with PSC above 0 is not
stated here. -/
def Obligations.CenterAlignedPeriod : Prop :=
  ∀ s : State, s.enabledNow .timTick = true → s.ctrl.cms = true → 1 ≤ s.arr.toNat → s.psc = 0 → s.cnt = 0 → s.psccnt = 0 → s.tdir = .up →
    (∀ n, n < 2 * s.arr.toNat → ∃ c, runOps (ticks n) s = some { s with cnt := c, tdir := if n < s.arr.toNat then .up else .down } ∧
      c.toNat = if n ≤ s.arr.toNat then n else 2 * s.arr.toNat - n) ∧
    runOps (ticks (2 * s.arr.toNat)) s = some { s with ccra := s.ccr, sr := s.sr ||| 0x200 }

/-- R367, R368, R369: with the output enabled and PSC = 0, from CNT = 0 the pin is active in min(c, ARR+1) of the ARR+1 counts of an
up-counting period, and in 0, 2*c - 1 or all 2*ARR counts of a center-aligned one, c being the comparator's value. PSC above 0 is not
stated here. -/
def Obligations.ActiveCountsOfOnePeriod : Prop :=
  ∀ s : State, s.enabledNow .timTick = true → s.ctrl.oe = true → 1 ≤ s.arr.toNat → s.psc = 0 → s.cnt = 0 → s.psccnt = 0 →
    (s.ctrl.cms = false → activeTicks (s.arr.toNat + 1) s = min s.ccra.toNat (s.arr.toNat + 1)) ∧
    (s.ctrl.cms = true → s.tdir = .up → activeTicks (2 * s.arr.toNat) s =
      if s.ccra.toNat = 0 then 0 else if s.ccra.toNat ≤ s.arr.toNat then 2 * s.ccra.toNat - 1 else 2 * s.arr.toNat)
end

