-- ==== Sys2Proof/Laws/Encode.lean ====
section
/-! SUPPORT. The bits of an encoded command word (spec/30_encoding.md R141). -/

namespace Sys2Proof

/-- A command word bit by bit: OFF in bits 9:0, SZ in 11:10, W in bit 12, zeros above. -/
theorem commandWord_bit (w : Bool) (sz : BitVec 2) (off : BitVec 10) (k : Nat) :
    (commandWord w sz off).getLsbD k =
      if k < 10 then off.getLsbD k else if k < 12 then sz.getLsbD (k - 10) else if k = 12 then w else false := by
  have h : (commandWord w sz off).getLsbD k =
      BitVec.getLsbD (0#3 ++ BitVec.ofBool w ++ sz ++ off : BitVec (3 + 1 + 2 + 10)) k := rfl
  rw [h, BitVec.getLsbD_append, BitVec.getLsbD_append, BitVec.getLsbD_append]
  split_ifs with h1 h2 h3 h4 h5 h6 <;> simp_all <;> omega

/-- A vector that is a high and a low part, bit by bit. -/
theorem append_bit {n m t : Nat} (hi : BitVec n) (lo : BitVec m) {c : BitVec t} (h : n + m = t) (e : c = (hi ++ lo).cast h)
    (k : Nat) : c.getLsbD k = if k < m then lo.getLsbD k else hi.getLsbD (k - m) := by
  subst e
  simp [BitVec.getLsbD_append]

end Sys2Proof
end

