-- ==== Sys2Proof/Laws/State.lean ====
section
/-! SUPPORT. The fields each shared update leaves alone, one lemma per field and update, so that no proof unfolds a record update. -/

namespace Sys2Proof.Machine

section setFlag
variable (s : State) (f : Flag)

@[simp] theorem State.setFlag_ctrl : (s.setFlag f).ctrl = s.ctrl := rfl
@[simp] theorem State.setFlag_adccfg : (s.setFlag f).adccfg = s.adccfg := rfl
@[simp] theorem State.setFlag_rbase : (s.setFlag f).rbase = s.rbase := rfl
@[simp] theorem State.setFlag_rlen : (s.setFlag f).rlen = s.rlen := rfl
@[simp] theorem State.setFlag_arr : (s.setFlag f).arr = s.arr := rfl
@[simp] theorem State.setFlag_psc : (s.setFlag f).psc = s.psc := rfl
@[simp] theorem State.setFlag_ccr : (s.setFlag f).ccr = s.ccr := rfl
@[simp] theorem State.setFlag_cnt : (s.setFlag f).cnt = s.cnt := rfl
@[simp] theorem State.setFlag_ier : (s.setFlag f).ier = s.ier := rfl
@[simp] theorem State.setFlag_dr : (s.setFlag f).dr = s.dr := rfl
@[simp] theorem State.setFlag_filt : (s.setFlag f).filt = s.filt := rfl
@[simp] theorem State.setFlag_ovrcnt : (s.setFlag f).ovrcnt = s.ovrcnt := rfl
@[simp] theorem State.setFlag_unc : (s.setFlag f).unc = s.unc := rfl
@[simp] theorem State.setFlag_dreq : (s.setFlag f).dreq = s.dreq := rfl
@[simp] theorem State.setFlag_widx : (s.setFlag f).widx = s.widx := rfl
@[simp] theorem State.setFlag_ustate : (s.setFlag f).ustate = s.ustate := rfl
@[simp] theorem State.setFlag_ucur : (s.setFlag f).ucur = s.ucur := rfl
@[simp] theorem State.setFlag_uacc : (s.setFlag f).uacc = s.uacc := rfl
@[simp] theorem State.setFlag_ubase : (s.setFlag f).ubase = s.ubase := rfl
@[simp] theorem State.setFlag_trigp : (s.setFlag f).trigp = s.trigp := rfl
@[simp] theorem State.setFlag_tkind : (s.setFlag f).tkind = s.tkind := rfl
@[simp] theorem State.setFlag_psccnt : (s.setFlag f).psccnt = s.psccnt := rfl
@[simp] theorem State.setFlag_tdir : (s.setFlag f).tdir = s.tdir := rfl
@[simp] theorem State.setFlag_ccra : (s.setFlag f).ccra = s.ccra := rfl
@[simp] theorem State.setFlag_mem : (s.setFlag f).mem = s.mem := rfl
@[simp] theorem State.setFlag_plat : (s.setFlag f).plat = s.plat := rfl
@[simp] theorem State.setFlag_hostHalted : (s.setFlag f).hostHalted = s.hostHalted := rfl
@[simp] theorem State.setFlag_inputs : (s.setFlag f).inputs = s.inputs := rfl
@[simp] theorem State.setFlag_stepNo : (s.setFlag f).stepNo = s.stepNo := rfl
@[simp] theorem State.setFlag_resp : (s.setFlag f).resp = s.resp := rfl

end setFlag

section clearFlags
variable (s : State) (m : BitVec 11)

@[simp] theorem State.clearFlags_ctrl : (s.clearFlags m).ctrl = s.ctrl := rfl
@[simp] theorem State.clearFlags_adccfg : (s.clearFlags m).adccfg = s.adccfg := rfl
@[simp] theorem State.clearFlags_rbase : (s.clearFlags m).rbase = s.rbase := rfl
@[simp] theorem State.clearFlags_rlen : (s.clearFlags m).rlen = s.rlen := rfl
@[simp] theorem State.clearFlags_arr : (s.clearFlags m).arr = s.arr := rfl
@[simp] theorem State.clearFlags_psc : (s.clearFlags m).psc = s.psc := rfl
@[simp] theorem State.clearFlags_ccr : (s.clearFlags m).ccr = s.ccr := rfl
@[simp] theorem State.clearFlags_cnt : (s.clearFlags m).cnt = s.cnt := rfl
@[simp] theorem State.clearFlags_ier : (s.clearFlags m).ier = s.ier := rfl
@[simp] theorem State.clearFlags_dr : (s.clearFlags m).dr = s.dr := rfl
@[simp] theorem State.clearFlags_filt : (s.clearFlags m).filt = s.filt := rfl
@[simp] theorem State.clearFlags_ovrcnt : (s.clearFlags m).ovrcnt = s.ovrcnt := rfl
@[simp] theorem State.clearFlags_unc : (s.clearFlags m).unc = s.unc := rfl
@[simp] theorem State.clearFlags_dreq : (s.clearFlags m).dreq = s.dreq := rfl
@[simp] theorem State.clearFlags_widx : (s.clearFlags m).widx = s.widx := rfl
@[simp] theorem State.clearFlags_ustate : (s.clearFlags m).ustate = s.ustate := rfl
@[simp] theorem State.clearFlags_ucur : (s.clearFlags m).ucur = s.ucur := rfl
@[simp] theorem State.clearFlags_uacc : (s.clearFlags m).uacc = s.uacc := rfl
@[simp] theorem State.clearFlags_ubase : (s.clearFlags m).ubase = s.ubase := rfl
@[simp] theorem State.clearFlags_trigp : (s.clearFlags m).trigp = s.trigp := rfl
@[simp] theorem State.clearFlags_tkind : (s.clearFlags m).tkind = s.tkind := rfl
@[simp] theorem State.clearFlags_psccnt : (s.clearFlags m).psccnt = s.psccnt := rfl
@[simp] theorem State.clearFlags_tdir : (s.clearFlags m).tdir = s.tdir := rfl
@[simp] theorem State.clearFlags_ccra : (s.clearFlags m).ccra = s.ccra := rfl
@[simp] theorem State.clearFlags_mem : (s.clearFlags m).mem = s.mem := rfl
@[simp] theorem State.clearFlags_plat : (s.clearFlags m).plat = s.plat := rfl
@[simp] theorem State.clearFlags_hostHalted : (s.clearFlags m).hostHalted = s.hostHalted := rfl
@[simp] theorem State.clearFlags_inputs : (s.clearFlags m).inputs = s.inputs := rfl
@[simp] theorem State.clearFlags_stepNo : (s.clearFlags m).stepNo = s.stepNo := rfl
@[simp] theorem State.clearFlags_resp : (s.clearFlags m).resp = s.resp := rfl

end clearFlags

section answer
variable (s : State) (v : Word)

@[simp] theorem State.answer_ctrl : (s.answer v).ctrl = s.ctrl := rfl
@[simp] theorem State.answer_adccfg : (s.answer v).adccfg = s.adccfg := rfl
@[simp] theorem State.answer_rbase : (s.answer v).rbase = s.rbase := rfl
@[simp] theorem State.answer_rlen : (s.answer v).rlen = s.rlen := rfl
@[simp] theorem State.answer_arr : (s.answer v).arr = s.arr := rfl
@[simp] theorem State.answer_psc : (s.answer v).psc = s.psc := rfl
@[simp] theorem State.answer_ccr : (s.answer v).ccr = s.ccr := rfl
@[simp] theorem State.answer_cnt : (s.answer v).cnt = s.cnt := rfl
@[simp] theorem State.answer_sr : (s.answer v).sr = s.sr := rfl
@[simp] theorem State.answer_ier : (s.answer v).ier = s.ier := rfl
@[simp] theorem State.answer_dr : (s.answer v).dr = s.dr := rfl
@[simp] theorem State.answer_filt : (s.answer v).filt = s.filt := rfl
@[simp] theorem State.answer_ovrcnt : (s.answer v).ovrcnt = s.ovrcnt := rfl
@[simp] theorem State.answer_unc : (s.answer v).unc = s.unc := rfl
@[simp] theorem State.answer_dreq : (s.answer v).dreq = s.dreq := rfl
@[simp] theorem State.answer_widx : (s.answer v).widx = s.widx := rfl
@[simp] theorem State.answer_ustate : (s.answer v).ustate = s.ustate := rfl
@[simp] theorem State.answer_ucur : (s.answer v).ucur = s.ucur := rfl
@[simp] theorem State.answer_uacc : (s.answer v).uacc = s.uacc := rfl
@[simp] theorem State.answer_ubase : (s.answer v).ubase = s.ubase := rfl
@[simp] theorem State.answer_trigp : (s.answer v).trigp = s.trigp := rfl
@[simp] theorem State.answer_tkind : (s.answer v).tkind = s.tkind := rfl
@[simp] theorem State.answer_psccnt : (s.answer v).psccnt = s.psccnt := rfl
@[simp] theorem State.answer_tdir : (s.answer v).tdir = s.tdir := rfl
@[simp] theorem State.answer_ccra : (s.answer v).ccra = s.ccra := rfl
@[simp] theorem State.answer_mem : (s.answer v).mem = s.mem := rfl
@[simp] theorem State.answer_plat : (s.answer v).plat = s.plat := rfl
@[simp] theorem State.answer_hostHalted : (s.answer v).hostHalted = s.hostHalted := rfl
@[simp] theorem State.answer_inputs : (s.answer v).inputs = s.inputs := rfl
@[simp] theorem State.answer_stepNo : (s.answer v).stepNo = s.stepNo := rfl

end answer

section done
variable (s : State)

@[simp] theorem State.done_ctrl : (s.done).ctrl = s.ctrl := rfl
@[simp] theorem State.done_adccfg : (s.done).adccfg = s.adccfg := rfl
@[simp] theorem State.done_rbase : (s.done).rbase = s.rbase := rfl
@[simp] theorem State.done_rlen : (s.done).rlen = s.rlen := rfl
@[simp] theorem State.done_arr : (s.done).arr = s.arr := rfl
@[simp] theorem State.done_psc : (s.done).psc = s.psc := rfl
@[simp] theorem State.done_ccr : (s.done).ccr = s.ccr := rfl
@[simp] theorem State.done_cnt : (s.done).cnt = s.cnt := rfl
@[simp] theorem State.done_sr : (s.done).sr = s.sr := rfl
@[simp] theorem State.done_ier : (s.done).ier = s.ier := rfl
@[simp] theorem State.done_dr : (s.done).dr = s.dr := rfl
@[simp] theorem State.done_filt : (s.done).filt = s.filt := rfl
@[simp] theorem State.done_ovrcnt : (s.done).ovrcnt = s.ovrcnt := rfl
@[simp] theorem State.done_unc : (s.done).unc = s.unc := rfl
@[simp] theorem State.done_dreq : (s.done).dreq = s.dreq := rfl
@[simp] theorem State.done_widx : (s.done).widx = s.widx := rfl
@[simp] theorem State.done_ustate : (s.done).ustate = s.ustate := rfl
@[simp] theorem State.done_ucur : (s.done).ucur = s.ucur := rfl
@[simp] theorem State.done_uacc : (s.done).uacc = s.uacc := rfl
@[simp] theorem State.done_ubase : (s.done).ubase = s.ubase := rfl
@[simp] theorem State.done_trigp : (s.done).trigp = s.trigp := rfl
@[simp] theorem State.done_tkind : (s.done).tkind = s.tkind := rfl
@[simp] theorem State.done_psccnt : (s.done).psccnt = s.psccnt := rfl
@[simp] theorem State.done_tdir : (s.done).tdir = s.tdir := rfl
@[simp] theorem State.done_ccra : (s.done).ccra = s.ccra := rfl
@[simp] theorem State.done_mem : (s.done).mem = s.mem := rfl
@[simp] theorem State.done_plat : (s.done).plat = s.plat := rfl
@[simp] theorem State.done_hostHalted : (s.done).hostHalted = s.hostHalted := rfl
@[simp] theorem State.done_inputs : (s.done).inputs = s.inputs := rfl
@[simp] theorem State.done_stepNo : (s.done).stepNo = s.stepNo := rfl

end done

section busErrorAnswer
variable (s : State)

@[simp] theorem State.busErrorAnswer_ctrl : (s.busErrorAnswer).ctrl = s.ctrl := rfl
@[simp] theorem State.busErrorAnswer_adccfg : (s.busErrorAnswer).adccfg = s.adccfg := rfl
@[simp] theorem State.busErrorAnswer_rbase : (s.busErrorAnswer).rbase = s.rbase := rfl
@[simp] theorem State.busErrorAnswer_rlen : (s.busErrorAnswer).rlen = s.rlen := rfl
@[simp] theorem State.busErrorAnswer_arr : (s.busErrorAnswer).arr = s.arr := rfl
@[simp] theorem State.busErrorAnswer_psc : (s.busErrorAnswer).psc = s.psc := rfl
@[simp] theorem State.busErrorAnswer_ccr : (s.busErrorAnswer).ccr = s.ccr := rfl
@[simp] theorem State.busErrorAnswer_cnt : (s.busErrorAnswer).cnt = s.cnt := rfl
@[simp] theorem State.busErrorAnswer_sr : (s.busErrorAnswer).sr = s.sr := rfl
@[simp] theorem State.busErrorAnswer_ier : (s.busErrorAnswer).ier = s.ier := rfl
@[simp] theorem State.busErrorAnswer_dr : (s.busErrorAnswer).dr = s.dr := rfl
@[simp] theorem State.busErrorAnswer_filt : (s.busErrorAnswer).filt = s.filt := rfl
@[simp] theorem State.busErrorAnswer_ovrcnt : (s.busErrorAnswer).ovrcnt = s.ovrcnt := rfl
@[simp] theorem State.busErrorAnswer_unc : (s.busErrorAnswer).unc = s.unc := rfl
@[simp] theorem State.busErrorAnswer_dreq : (s.busErrorAnswer).dreq = s.dreq := rfl
@[simp] theorem State.busErrorAnswer_widx : (s.busErrorAnswer).widx = s.widx := rfl
@[simp] theorem State.busErrorAnswer_ustate : (s.busErrorAnswer).ustate = s.ustate := rfl
@[simp] theorem State.busErrorAnswer_ucur : (s.busErrorAnswer).ucur = s.ucur := rfl
@[simp] theorem State.busErrorAnswer_uacc : (s.busErrorAnswer).uacc = s.uacc := rfl
@[simp] theorem State.busErrorAnswer_ubase : (s.busErrorAnswer).ubase = s.ubase := rfl
@[simp] theorem State.busErrorAnswer_trigp : (s.busErrorAnswer).trigp = s.trigp := rfl
@[simp] theorem State.busErrorAnswer_tkind : (s.busErrorAnswer).tkind = s.tkind := rfl
@[simp] theorem State.busErrorAnswer_psccnt : (s.busErrorAnswer).psccnt = s.psccnt := rfl
@[simp] theorem State.busErrorAnswer_tdir : (s.busErrorAnswer).tdir = s.tdir := rfl
@[simp] theorem State.busErrorAnswer_ccra : (s.busErrorAnswer).ccra = s.ccra := rfl
@[simp] theorem State.busErrorAnswer_mem : (s.busErrorAnswer).mem = s.mem := rfl
@[simp] theorem State.busErrorAnswer_plat : (s.busErrorAnswer).plat = s.plat := rfl
@[simp] theorem State.busErrorAnswer_hostHalted : (s.busErrorAnswer).hostHalted = s.hostHalted := rfl
@[simp] theorem State.busErrorAnswer_inputs : (s.busErrorAnswer).inputs = s.inputs := rfl
@[simp] theorem State.busErrorAnswer_stepNo : (s.busErrorAnswer).stepNo = s.stepNo := rfl

end busErrorAnswer

section consumeDR
variable (s : State)

@[simp] theorem State.consumeDR_ctrl : (s.consumeDR).ctrl = s.ctrl := rfl
@[simp] theorem State.consumeDR_adccfg : (s.consumeDR).adccfg = s.adccfg := rfl
@[simp] theorem State.consumeDR_rbase : (s.consumeDR).rbase = s.rbase := rfl
@[simp] theorem State.consumeDR_rlen : (s.consumeDR).rlen = s.rlen := rfl
@[simp] theorem State.consumeDR_arr : (s.consumeDR).arr = s.arr := rfl
@[simp] theorem State.consumeDR_psc : (s.consumeDR).psc = s.psc := rfl
@[simp] theorem State.consumeDR_ccr : (s.consumeDR).ccr = s.ccr := rfl
@[simp] theorem State.consumeDR_cnt : (s.consumeDR).cnt = s.cnt := rfl
@[simp] theorem State.consumeDR_ier : (s.consumeDR).ier = s.ier := rfl
@[simp] theorem State.consumeDR_dr : (s.consumeDR).dr = s.dr := rfl
@[simp] theorem State.consumeDR_filt : (s.consumeDR).filt = s.filt := rfl
@[simp] theorem State.consumeDR_ovrcnt : (s.consumeDR).ovrcnt = s.ovrcnt := rfl
@[simp] theorem State.consumeDR_dreq : (s.consumeDR).dreq = s.dreq := rfl
@[simp] theorem State.consumeDR_widx : (s.consumeDR).widx = s.widx := rfl
@[simp] theorem State.consumeDR_ustate : (s.consumeDR).ustate = s.ustate := rfl
@[simp] theorem State.consumeDR_ucur : (s.consumeDR).ucur = s.ucur := rfl
@[simp] theorem State.consumeDR_uacc : (s.consumeDR).uacc = s.uacc := rfl
@[simp] theorem State.consumeDR_ubase : (s.consumeDR).ubase = s.ubase := rfl
@[simp] theorem State.consumeDR_trigp : (s.consumeDR).trigp = s.trigp := rfl
@[simp] theorem State.consumeDR_tkind : (s.consumeDR).tkind = s.tkind := rfl
@[simp] theorem State.consumeDR_psccnt : (s.consumeDR).psccnt = s.psccnt := rfl
@[simp] theorem State.consumeDR_tdir : (s.consumeDR).tdir = s.tdir := rfl
@[simp] theorem State.consumeDR_ccra : (s.consumeDR).ccra = s.ccra := rfl
@[simp] theorem State.consumeDR_mem : (s.consumeDR).mem = s.mem := rfl
@[simp] theorem State.consumeDR_plat : (s.consumeDR).plat = s.plat := rfl
@[simp] theorem State.consumeDR_hostHalted : (s.consumeDR).hostHalted = s.hostHalted := rfl
@[simp] theorem State.consumeDR_inputs : (s.consumeDR).inputs = s.inputs := rfl
@[simp] theorem State.consumeDR_stepNo : (s.consumeDR).stepNo = s.stepNo := rfl
@[simp] theorem State.consumeDR_resp : (s.consumeDR).resp = s.resp := rfl

end consumeDR

section dmaDisable
variable (s : State)

@[simp] theorem State.dmaDisable_adccfg : (s.dmaDisable).adccfg = s.adccfg := rfl
@[simp] theorem State.dmaDisable_rbase : (s.dmaDisable).rbase = s.rbase := rfl
@[simp] theorem State.dmaDisable_rlen : (s.dmaDisable).rlen = s.rlen := rfl
@[simp] theorem State.dmaDisable_arr : (s.dmaDisable).arr = s.arr := rfl
@[simp] theorem State.dmaDisable_psc : (s.dmaDisable).psc = s.psc := rfl
@[simp] theorem State.dmaDisable_ccr : (s.dmaDisable).ccr = s.ccr := rfl
@[simp] theorem State.dmaDisable_cnt : (s.dmaDisable).cnt = s.cnt := rfl
@[simp] theorem State.dmaDisable_sr : (s.dmaDisable).sr = s.sr := rfl
@[simp] theorem State.dmaDisable_ier : (s.dmaDisable).ier = s.ier := rfl
@[simp] theorem State.dmaDisable_dr : (s.dmaDisable).dr = s.dr := rfl
@[simp] theorem State.dmaDisable_filt : (s.dmaDisable).filt = s.filt := rfl
@[simp] theorem State.dmaDisable_ovrcnt : (s.dmaDisable).ovrcnt = s.ovrcnt := rfl
@[simp] theorem State.dmaDisable_unc : (s.dmaDisable).unc = s.unc := rfl
@[simp] theorem State.dmaDisable_widx : (s.dmaDisable).widx = s.widx := rfl
@[simp] theorem State.dmaDisable_ustate : (s.dmaDisable).ustate = s.ustate := rfl
@[simp] theorem State.dmaDisable_ucur : (s.dmaDisable).ucur = s.ucur := rfl
@[simp] theorem State.dmaDisable_uacc : (s.dmaDisable).uacc = s.uacc := rfl
@[simp] theorem State.dmaDisable_ubase : (s.dmaDisable).ubase = s.ubase := rfl
@[simp] theorem State.dmaDisable_trigp : (s.dmaDisable).trigp = s.trigp := rfl
@[simp] theorem State.dmaDisable_tkind : (s.dmaDisable).tkind = s.tkind := rfl
@[simp] theorem State.dmaDisable_psccnt : (s.dmaDisable).psccnt = s.psccnt := rfl
@[simp] theorem State.dmaDisable_tdir : (s.dmaDisable).tdir = s.tdir := rfl
@[simp] theorem State.dmaDisable_ccra : (s.dmaDisable).ccra = s.ccra := rfl
@[simp] theorem State.dmaDisable_mem : (s.dmaDisable).mem = s.mem := rfl
@[simp] theorem State.dmaDisable_plat : (s.dmaDisable).plat = s.plat := rfl
@[simp] theorem State.dmaDisable_hostHalted : (s.dmaDisable).hostHalted = s.hostHalted := rfl
@[simp] theorem State.dmaDisable_inputs : (s.dmaDisable).inputs = s.inputs := rfl
@[simp] theorem State.dmaDisable_stepNo : (s.dmaDisable).stepNo = s.stepNo := rfl
@[simp] theorem State.dmaDisable_resp : (s.dmaDisable).resp = s.resp := rfl

end dmaDisable

section teFault
variable (s : State)

@[simp] theorem State.teFault_adccfg : (s.teFault).adccfg = s.adccfg := rfl
@[simp] theorem State.teFault_rbase : (s.teFault).rbase = s.rbase := rfl
@[simp] theorem State.teFault_rlen : (s.teFault).rlen = s.rlen := rfl
@[simp] theorem State.teFault_arr : (s.teFault).arr = s.arr := rfl
@[simp] theorem State.teFault_psc : (s.teFault).psc = s.psc := rfl
@[simp] theorem State.teFault_ccr : (s.teFault).ccr = s.ccr := rfl
@[simp] theorem State.teFault_cnt : (s.teFault).cnt = s.cnt := rfl
@[simp] theorem State.teFault_ier : (s.teFault).ier = s.ier := rfl
@[simp] theorem State.teFault_dr : (s.teFault).dr = s.dr := rfl
@[simp] theorem State.teFault_filt : (s.teFault).filt = s.filt := rfl
@[simp] theorem State.teFault_ovrcnt : (s.teFault).ovrcnt = s.ovrcnt := rfl
@[simp] theorem State.teFault_unc : (s.teFault).unc = s.unc := rfl
@[simp] theorem State.teFault_widx : (s.teFault).widx = s.widx := rfl
@[simp] theorem State.teFault_ustate : (s.teFault).ustate = s.ustate := rfl
@[simp] theorem State.teFault_ucur : (s.teFault).ucur = s.ucur := rfl
@[simp] theorem State.teFault_uacc : (s.teFault).uacc = s.uacc := rfl
@[simp] theorem State.teFault_ubase : (s.teFault).ubase = s.ubase := rfl
@[simp] theorem State.teFault_trigp : (s.teFault).trigp = s.trigp := rfl
@[simp] theorem State.teFault_tkind : (s.teFault).tkind = s.tkind := rfl
@[simp] theorem State.teFault_psccnt : (s.teFault).psccnt = s.psccnt := rfl
@[simp] theorem State.teFault_tdir : (s.teFault).tdir = s.tdir := rfl
@[simp] theorem State.teFault_ccra : (s.teFault).ccra = s.ccra := rfl
@[simp] theorem State.teFault_mem : (s.teFault).mem = s.mem := rfl
@[simp] theorem State.teFault_plat : (s.teFault).plat = s.plat := rfl
@[simp] theorem State.teFault_hostHalted : (s.teFault).hostHalted = s.hostHalted := rfl
@[simp] theorem State.teFault_inputs : (s.teFault).inputs = s.inputs := rfl
@[simp] theorem State.teFault_stepNo : (s.teFault).stepNo = s.stepNo := rfl
@[simp] theorem State.teFault_resp : (s.teFault).resp = s.resp := rfl

end teFault

section startPass
variable (s : State)

@[simp] theorem State.startPass_ctrl : (s.startPass).ctrl = s.ctrl := rfl
@[simp] theorem State.startPass_adccfg : (s.startPass).adccfg = s.adccfg := rfl
@[simp] theorem State.startPass_rbase : (s.startPass).rbase = s.rbase := rfl
@[simp] theorem State.startPass_rlen : (s.startPass).rlen = s.rlen := rfl
@[simp] theorem State.startPass_arr : (s.startPass).arr = s.arr := rfl
@[simp] theorem State.startPass_psc : (s.startPass).psc = s.psc := rfl
@[simp] theorem State.startPass_ccr : (s.startPass).ccr = s.ccr := rfl
@[simp] theorem State.startPass_cnt : (s.startPass).cnt = s.cnt := rfl
@[simp] theorem State.startPass_sr : (s.startPass).sr = s.sr := rfl
@[simp] theorem State.startPass_ier : (s.startPass).ier = s.ier := rfl
@[simp] theorem State.startPass_dr : (s.startPass).dr = s.dr := rfl
@[simp] theorem State.startPass_filt : (s.startPass).filt = s.filt := rfl
@[simp] theorem State.startPass_ovrcnt : (s.startPass).ovrcnt = s.ovrcnt := rfl
@[simp] theorem State.startPass_unc : (s.startPass).unc = s.unc := rfl
@[simp] theorem State.startPass_dreq : (s.startPass).dreq = s.dreq := rfl
@[simp] theorem State.startPass_widx : (s.startPass).widx = s.widx := rfl
@[simp] theorem State.startPass_tkind : (s.startPass).tkind = s.tkind := rfl
@[simp] theorem State.startPass_psccnt : (s.startPass).psccnt = s.psccnt := rfl
@[simp] theorem State.startPass_tdir : (s.startPass).tdir = s.tdir := rfl
@[simp] theorem State.startPass_ccra : (s.startPass).ccra = s.ccra := rfl
@[simp] theorem State.startPass_mem : (s.startPass).mem = s.mem := rfl
@[simp] theorem State.startPass_plat : (s.startPass).plat = s.plat := rfl
@[simp] theorem State.startPass_hostHalted : (s.startPass).hostHalted = s.hostHalted := rfl
@[simp] theorem State.startPass_inputs : (s.startPass).inputs = s.inputs := rfl
@[simp] theorem State.startPass_stepNo : (s.startPass).stepNo = s.stepNo := rfl
@[simp] theorem State.startPass_resp : (s.startPass).resp = s.resp := rfl

end startPass

section storeSlot
variable (s : State)

@[simp] theorem State.storeSlot_ctrl : (s.storeSlot).ctrl = s.ctrl := rfl
@[simp] theorem State.storeSlot_adccfg : (s.storeSlot).adccfg = s.adccfg := rfl
@[simp] theorem State.storeSlot_rbase : (s.storeSlot).rbase = s.rbase := rfl
@[simp] theorem State.storeSlot_rlen : (s.storeSlot).rlen = s.rlen := rfl
@[simp] theorem State.storeSlot_arr : (s.storeSlot).arr = s.arr := rfl
@[simp] theorem State.storeSlot_psc : (s.storeSlot).psc = s.psc := rfl
@[simp] theorem State.storeSlot_ccr : (s.storeSlot).ccr = s.ccr := rfl
@[simp] theorem State.storeSlot_cnt : (s.storeSlot).cnt = s.cnt := rfl
@[simp] theorem State.storeSlot_sr : (s.storeSlot).sr = s.sr := rfl
@[simp] theorem State.storeSlot_ier : (s.storeSlot).ier = s.ier := rfl
@[simp] theorem State.storeSlot_dr : (s.storeSlot).dr = s.dr := rfl
@[simp] theorem State.storeSlot_filt : (s.storeSlot).filt = s.filt := rfl
@[simp] theorem State.storeSlot_ovrcnt : (s.storeSlot).ovrcnt = s.ovrcnt := rfl
@[simp] theorem State.storeSlot_unc : (s.storeSlot).unc = s.unc := rfl
@[simp] theorem State.storeSlot_widx : (s.storeSlot).widx = s.widx := rfl
@[simp] theorem State.storeSlot_ustate : (s.storeSlot).ustate = s.ustate := rfl
@[simp] theorem State.storeSlot_ucur : (s.storeSlot).ucur = s.ucur := rfl
@[simp] theorem State.storeSlot_uacc : (s.storeSlot).uacc = s.uacc := rfl
@[simp] theorem State.storeSlot_ubase : (s.storeSlot).ubase = s.ubase := rfl
@[simp] theorem State.storeSlot_trigp : (s.storeSlot).trigp = s.trigp := rfl
@[simp] theorem State.storeSlot_tkind : (s.storeSlot).tkind = s.tkind := rfl
@[simp] theorem State.storeSlot_psccnt : (s.storeSlot).psccnt = s.psccnt := rfl
@[simp] theorem State.storeSlot_tdir : (s.storeSlot).tdir = s.tdir := rfl
@[simp] theorem State.storeSlot_ccra : (s.storeSlot).ccra = s.ccra := rfl
@[simp] theorem State.storeSlot_plat : (s.storeSlot).plat = s.plat := rfl
@[simp] theorem State.storeSlot_hostHalted : (s.storeSlot).hostHalted = s.hostHalted := rfl
@[simp] theorem State.storeSlot_inputs : (s.storeSlot).inputs = s.inputs := rfl
@[simp] theorem State.storeSlot_stepNo : (s.storeSlot).stepNo = s.stepNo := rfl
@[simp] theorem State.storeSlot_resp : (s.storeSlot).resp = s.resp := rfl

end storeSlot

section timEnable
variable (s : State)

@[simp] theorem State.timEnable_adccfg : (s.timEnable).adccfg = s.adccfg := rfl
@[simp] theorem State.timEnable_rbase : (s.timEnable).rbase = s.rbase := rfl
@[simp] theorem State.timEnable_rlen : (s.timEnable).rlen = s.rlen := rfl
@[simp] theorem State.timEnable_arr : (s.timEnable).arr = s.arr := rfl
@[simp] theorem State.timEnable_psc : (s.timEnable).psc = s.psc := rfl
@[simp] theorem State.timEnable_ccr : (s.timEnable).ccr = s.ccr := rfl
@[simp] theorem State.timEnable_sr : (s.timEnable).sr = s.sr := rfl
@[simp] theorem State.timEnable_ier : (s.timEnable).ier = s.ier := rfl
@[simp] theorem State.timEnable_dr : (s.timEnable).dr = s.dr := rfl
@[simp] theorem State.timEnable_filt : (s.timEnable).filt = s.filt := rfl
@[simp] theorem State.timEnable_ovrcnt : (s.timEnable).ovrcnt = s.ovrcnt := rfl
@[simp] theorem State.timEnable_unc : (s.timEnable).unc = s.unc := rfl
@[simp] theorem State.timEnable_dreq : (s.timEnable).dreq = s.dreq := rfl
@[simp] theorem State.timEnable_widx : (s.timEnable).widx = s.widx := rfl
@[simp] theorem State.timEnable_ustate : (s.timEnable).ustate = s.ustate := rfl
@[simp] theorem State.timEnable_ucur : (s.timEnable).ucur = s.ucur := rfl
@[simp] theorem State.timEnable_uacc : (s.timEnable).uacc = s.uacc := rfl
@[simp] theorem State.timEnable_ubase : (s.timEnable).ubase = s.ubase := rfl
@[simp] theorem State.timEnable_trigp : (s.timEnable).trigp = s.trigp := rfl
@[simp] theorem State.timEnable_tkind : (s.timEnable).tkind = s.tkind := rfl
@[simp] theorem State.timEnable_mem : (s.timEnable).mem = s.mem := rfl
@[simp] theorem State.timEnable_plat : (s.timEnable).plat = s.plat := rfl
@[simp] theorem State.timEnable_hostHalted : (s.timEnable).hostHalted = s.hostHalted := rfl
@[simp] theorem State.timEnable_inputs : (s.timEnable).inputs = s.inputs := rfl
@[simp] theorem State.timEnable_stepNo : (s.timEnable).stepNo = s.stepNo := rfl
@[simp] theorem State.timEnable_resp : (s.timEnable).resp = s.resp := rfl

end timEnable

section timDisable
variable (s : State)

@[simp] theorem State.timDisable_adccfg : (s.timDisable).adccfg = s.adccfg := rfl
@[simp] theorem State.timDisable_rbase : (s.timDisable).rbase = s.rbase := rfl
@[simp] theorem State.timDisable_rlen : (s.timDisable).rlen = s.rlen := rfl
@[simp] theorem State.timDisable_arr : (s.timDisable).arr = s.arr := rfl
@[simp] theorem State.timDisable_psc : (s.timDisable).psc = s.psc := rfl
@[simp] theorem State.timDisable_ccr : (s.timDisable).ccr = s.ccr := rfl
@[simp] theorem State.timDisable_cnt : (s.timDisable).cnt = s.cnt := rfl
@[simp] theorem State.timDisable_sr : (s.timDisable).sr = s.sr := rfl
@[simp] theorem State.timDisable_ier : (s.timDisable).ier = s.ier := rfl
@[simp] theorem State.timDisable_dr : (s.timDisable).dr = s.dr := rfl
@[simp] theorem State.timDisable_filt : (s.timDisable).filt = s.filt := rfl
@[simp] theorem State.timDisable_ovrcnt : (s.timDisable).ovrcnt = s.ovrcnt := rfl
@[simp] theorem State.timDisable_unc : (s.timDisable).unc = s.unc := rfl
@[simp] theorem State.timDisable_dreq : (s.timDisable).dreq = s.dreq := rfl
@[simp] theorem State.timDisable_widx : (s.timDisable).widx = s.widx := rfl
@[simp] theorem State.timDisable_ustate : (s.timDisable).ustate = s.ustate := rfl
@[simp] theorem State.timDisable_ucur : (s.timDisable).ucur = s.ucur := rfl
@[simp] theorem State.timDisable_uacc : (s.timDisable).uacc = s.uacc := rfl
@[simp] theorem State.timDisable_ubase : (s.timDisable).ubase = s.ubase := rfl
@[simp] theorem State.timDisable_trigp : (s.timDisable).trigp = s.trigp := rfl
@[simp] theorem State.timDisable_tkind : (s.timDisable).tkind = s.tkind := rfl
@[simp] theorem State.timDisable_psccnt : (s.timDisable).psccnt = s.psccnt := rfl
@[simp] theorem State.timDisable_tdir : (s.timDisable).tdir = s.tdir := rfl
@[simp] theorem State.timDisable_ccra : (s.timDisable).ccra = s.ccra := rfl
@[simp] theorem State.timDisable_mem : (s.timDisable).mem = s.mem := rfl
@[simp] theorem State.timDisable_plat : (s.timDisable).plat = s.plat := rfl
@[simp] theorem State.timDisable_hostHalted : (s.timDisable).hostHalted = s.hostHalted := rfl
@[simp] theorem State.timDisable_inputs : (s.timDisable).inputs = s.inputs := rfl
@[simp] theorem State.timDisable_stepNo : (s.timDisable).stepNo = s.stepNo := rfl
@[simp] theorem State.timDisable_resp : (s.timDisable).resp = s.resp := rfl

end timDisable

section updateEvent
variable (s : State)

@[simp] theorem State.updateEvent_ctrl : (s.updateEvent).ctrl = s.ctrl := rfl
@[simp] theorem State.updateEvent_adccfg : (s.updateEvent).adccfg = s.adccfg := rfl
@[simp] theorem State.updateEvent_rbase : (s.updateEvent).rbase = s.rbase := rfl
@[simp] theorem State.updateEvent_rlen : (s.updateEvent).rlen = s.rlen := rfl
@[simp] theorem State.updateEvent_arr : (s.updateEvent).arr = s.arr := rfl
@[simp] theorem State.updateEvent_psc : (s.updateEvent).psc = s.psc := rfl
@[simp] theorem State.updateEvent_ccr : (s.updateEvent).ccr = s.ccr := rfl
@[simp] theorem State.updateEvent_cnt : (s.updateEvent).cnt = s.cnt := rfl
@[simp] theorem State.updateEvent_ier : (s.updateEvent).ier = s.ier := rfl
@[simp] theorem State.updateEvent_dr : (s.updateEvent).dr = s.dr := rfl
@[simp] theorem State.updateEvent_filt : (s.updateEvent).filt = s.filt := rfl
@[simp] theorem State.updateEvent_ovrcnt : (s.updateEvent).ovrcnt = s.ovrcnt := rfl
@[simp] theorem State.updateEvent_unc : (s.updateEvent).unc = s.unc := rfl
@[simp] theorem State.updateEvent_dreq : (s.updateEvent).dreq = s.dreq := rfl
@[simp] theorem State.updateEvent_widx : (s.updateEvent).widx = s.widx := rfl
@[simp] theorem State.updateEvent_ustate : (s.updateEvent).ustate = s.ustate := rfl
@[simp] theorem State.updateEvent_ucur : (s.updateEvent).ucur = s.ucur := rfl
@[simp] theorem State.updateEvent_uacc : (s.updateEvent).uacc = s.uacc := rfl
@[simp] theorem State.updateEvent_ubase : (s.updateEvent).ubase = s.ubase := rfl
@[simp] theorem State.updateEvent_trigp : (s.updateEvent).trigp = s.trigp := rfl
@[simp] theorem State.updateEvent_tkind : (s.updateEvent).tkind = s.tkind := rfl
@[simp] theorem State.updateEvent_psccnt : (s.updateEvent).psccnt = s.psccnt := rfl
@[simp] theorem State.updateEvent_tdir : (s.updateEvent).tdir = s.tdir := rfl
@[simp] theorem State.updateEvent_mem : (s.updateEvent).mem = s.mem := rfl
@[simp] theorem State.updateEvent_plat : (s.updateEvent).plat = s.plat := rfl
@[simp] theorem State.updateEvent_hostHalted : (s.updateEvent).hostHalted = s.hostHalted := rfl
@[simp] theorem State.updateEvent_inputs : (s.updateEvent).inputs = s.inputs := rfl
@[simp] theorem State.updateEvent_stepNo : (s.updateEvent).stepNo = s.stepNo := rfl
@[simp] theorem State.updateEvent_resp : (s.updateEvent).resp = s.resp := rfl

end updateEvent

section deposit
variable (s : State) (x : Sample)

@[simp] theorem State.deposit_ctrl : (s.deposit x).ctrl = s.ctrl := rfl
@[simp] theorem State.deposit_adccfg : (s.deposit x).adccfg = s.adccfg := rfl
@[simp] theorem State.deposit_rbase : (s.deposit x).rbase = s.rbase := rfl
@[simp] theorem State.deposit_rlen : (s.deposit x).rlen = s.rlen := rfl
@[simp] theorem State.deposit_arr : (s.deposit x).arr = s.arr := rfl
@[simp] theorem State.deposit_psc : (s.deposit x).psc = s.psc := rfl
@[simp] theorem State.deposit_ccr : (s.deposit x).ccr = s.ccr := rfl
@[simp] theorem State.deposit_cnt : (s.deposit x).cnt = s.cnt := rfl
@[simp] theorem State.deposit_ier : (s.deposit x).ier = s.ier := rfl
@[simp] theorem State.deposit_filt : (s.deposit x).filt = s.filt := rfl
@[simp] theorem State.deposit_ovrcnt : (s.deposit x).ovrcnt = s.ovrcnt := rfl
@[simp] theorem State.deposit_dreq : (s.deposit x).dreq = s.dreq := rfl
@[simp] theorem State.deposit_widx : (s.deposit x).widx = s.widx := rfl
@[simp] theorem State.deposit_ustate : (s.deposit x).ustate = s.ustate := rfl
@[simp] theorem State.deposit_ucur : (s.deposit x).ucur = s.ucur := rfl
@[simp] theorem State.deposit_uacc : (s.deposit x).uacc = s.uacc := rfl
@[simp] theorem State.deposit_ubase : (s.deposit x).ubase = s.ubase := rfl
@[simp] theorem State.deposit_trigp : (s.deposit x).trigp = s.trigp := rfl
@[simp] theorem State.deposit_tkind : (s.deposit x).tkind = s.tkind := rfl
@[simp] theorem State.deposit_psccnt : (s.deposit x).psccnt = s.psccnt := rfl
@[simp] theorem State.deposit_tdir : (s.deposit x).tdir = s.tdir := rfl
@[simp] theorem State.deposit_ccra : (s.deposit x).ccra = s.ccra := rfl
@[simp] theorem State.deposit_mem : (s.deposit x).mem = s.mem := rfl
@[simp] theorem State.deposit_plat : (s.deposit x).plat = s.plat := rfl
@[simp] theorem State.deposit_hostHalted : (s.deposit x).hostHalted = s.hostHalted := rfl
@[simp] theorem State.deposit_inputs : (s.deposit x).inputs = s.inputs := rfl
@[simp] theorem State.deposit_stepNo : (s.deposit x).stepNo = s.stepNo := rfl
@[simp] theorem State.deposit_resp : (s.deposit x).resp = s.resp := rfl

end deposit

section writeFreeFields
variable (s : State) (w : Ctrl)

@[simp] theorem State.writeFreeFields_adccfg : (s.writeFreeFields w).adccfg = s.adccfg := rfl
@[simp] theorem State.writeFreeFields_rbase : (s.writeFreeFields w).rbase = s.rbase := rfl
@[simp] theorem State.writeFreeFields_rlen : (s.writeFreeFields w).rlen = s.rlen := rfl
@[simp] theorem State.writeFreeFields_arr : (s.writeFreeFields w).arr = s.arr := rfl
@[simp] theorem State.writeFreeFields_psc : (s.writeFreeFields w).psc = s.psc := rfl
@[simp] theorem State.writeFreeFields_ccr : (s.writeFreeFields w).ccr = s.ccr := rfl
@[simp] theorem State.writeFreeFields_cnt : (s.writeFreeFields w).cnt = s.cnt := rfl
@[simp] theorem State.writeFreeFields_sr : (s.writeFreeFields w).sr = s.sr := rfl
@[simp] theorem State.writeFreeFields_ier : (s.writeFreeFields w).ier = s.ier := rfl
@[simp] theorem State.writeFreeFields_dr : (s.writeFreeFields w).dr = s.dr := rfl
@[simp] theorem State.writeFreeFields_filt : (s.writeFreeFields w).filt = s.filt := rfl
@[simp] theorem State.writeFreeFields_ovrcnt : (s.writeFreeFields w).ovrcnt = s.ovrcnt := rfl
@[simp] theorem State.writeFreeFields_unc : (s.writeFreeFields w).unc = s.unc := rfl
@[simp] theorem State.writeFreeFields_dreq : (s.writeFreeFields w).dreq = s.dreq := rfl
@[simp] theorem State.writeFreeFields_widx : (s.writeFreeFields w).widx = s.widx := rfl
@[simp] theorem State.writeFreeFields_ustate : (s.writeFreeFields w).ustate = s.ustate := rfl
@[simp] theorem State.writeFreeFields_ucur : (s.writeFreeFields w).ucur = s.ucur := rfl
@[simp] theorem State.writeFreeFields_uacc : (s.writeFreeFields w).uacc = s.uacc := rfl
@[simp] theorem State.writeFreeFields_ubase : (s.writeFreeFields w).ubase = s.ubase := rfl
@[simp] theorem State.writeFreeFields_trigp : (s.writeFreeFields w).trigp = s.trigp := rfl
@[simp] theorem State.writeFreeFields_tkind : (s.writeFreeFields w).tkind = s.tkind := rfl
@[simp] theorem State.writeFreeFields_psccnt : (s.writeFreeFields w).psccnt = s.psccnt := rfl
@[simp] theorem State.writeFreeFields_tdir : (s.writeFreeFields w).tdir = s.tdir := rfl
@[simp] theorem State.writeFreeFields_ccra : (s.writeFreeFields w).ccra = s.ccra := rfl
@[simp] theorem State.writeFreeFields_mem : (s.writeFreeFields w).mem = s.mem := rfl
@[simp] theorem State.writeFreeFields_plat : (s.writeFreeFields w).plat = s.plat := rfl
@[simp] theorem State.writeFreeFields_hostHalted : (s.writeFreeFields w).hostHalted = s.hostHalted := rfl
@[simp] theorem State.writeFreeFields_inputs : (s.writeFreeFields w).inputs = s.inputs := rfl
@[simp] theorem State.writeFreeFields_stepNo : (s.writeFreeFields w).stepNo = s.stepNo := rfl
@[simp] theorem State.writeFreeFields_resp : (s.writeFreeFields w).resp = s.resp := rfl

end writeFreeFields

section writeAden
variable (s : State) (b : Bool)

@[simp] theorem State.writeAden_adccfg : (s.writeAden b).adccfg = s.adccfg := rfl
@[simp] theorem State.writeAden_rbase : (s.writeAden b).rbase = s.rbase := rfl
@[simp] theorem State.writeAden_rlen : (s.writeAden b).rlen = s.rlen := rfl
@[simp] theorem State.writeAden_arr : (s.writeAden b).arr = s.arr := rfl
@[simp] theorem State.writeAden_psc : (s.writeAden b).psc = s.psc := rfl
@[simp] theorem State.writeAden_ccr : (s.writeAden b).ccr = s.ccr := rfl
@[simp] theorem State.writeAden_cnt : (s.writeAden b).cnt = s.cnt := rfl
@[simp] theorem State.writeAden_sr : (s.writeAden b).sr = s.sr := rfl
@[simp] theorem State.writeAden_ier : (s.writeAden b).ier = s.ier := rfl
@[simp] theorem State.writeAden_dr : (s.writeAden b).dr = s.dr := rfl
@[simp] theorem State.writeAden_filt : (s.writeAden b).filt = s.filt := rfl
@[simp] theorem State.writeAden_ovrcnt : (s.writeAden b).ovrcnt = s.ovrcnt := rfl
@[simp] theorem State.writeAden_unc : (s.writeAden b).unc = s.unc := rfl
@[simp] theorem State.writeAden_dreq : (s.writeAden b).dreq = s.dreq := rfl
@[simp] theorem State.writeAden_widx : (s.writeAden b).widx = s.widx := rfl
@[simp] theorem State.writeAden_ustate : (s.writeAden b).ustate = s.ustate := rfl
@[simp] theorem State.writeAden_ucur : (s.writeAden b).ucur = s.ucur := rfl
@[simp] theorem State.writeAden_uacc : (s.writeAden b).uacc = s.uacc := rfl
@[simp] theorem State.writeAden_ubase : (s.writeAden b).ubase = s.ubase := rfl
@[simp] theorem State.writeAden_trigp : (s.writeAden b).trigp = s.trigp := rfl
@[simp] theorem State.writeAden_tkind : (s.writeAden b).tkind = s.tkind := rfl
@[simp] theorem State.writeAden_psccnt : (s.writeAden b).psccnt = s.psccnt := rfl
@[simp] theorem State.writeAden_tdir : (s.writeAden b).tdir = s.tdir := rfl
@[simp] theorem State.writeAden_ccra : (s.writeAden b).ccra = s.ccra := rfl
@[simp] theorem State.writeAden_mem : (s.writeAden b).mem = s.mem := rfl
@[simp] theorem State.writeAden_plat : (s.writeAden b).plat = s.plat := rfl
@[simp] theorem State.writeAden_hostHalted : (s.writeAden b).hostHalted = s.hostHalted := rfl
@[simp] theorem State.writeAden_inputs : (s.writeAden b).inputs = s.inputs := rfl
@[simp] theorem State.writeAden_stepNo : (s.writeAden b).stepNo = s.stepNo := rfl
@[simp] theorem State.writeAden_resp : (s.writeAden b).resp = s.resp := rfl

end writeAden

section fetched
variable (s : State)

@[simp] theorem State.fetched_ctrl : (s.fetched).ctrl = s.ctrl := rfl
@[simp] theorem State.fetched_adccfg : (s.fetched).adccfg = s.adccfg := rfl
@[simp] theorem State.fetched_rbase : (s.fetched).rbase = s.rbase := rfl
@[simp] theorem State.fetched_rlen : (s.fetched).rlen = s.rlen := rfl
@[simp] theorem State.fetched_arr : (s.fetched).arr = s.arr := rfl
@[simp] theorem State.fetched_psc : (s.fetched).psc = s.psc := rfl
@[simp] theorem State.fetched_ccr : (s.fetched).ccr = s.ccr := rfl
@[simp] theorem State.fetched_cnt : (s.fetched).cnt = s.cnt := rfl
@[simp] theorem State.fetched_sr : (s.fetched).sr = s.sr := rfl
@[simp] theorem State.fetched_ier : (s.fetched).ier = s.ier := rfl
@[simp] theorem State.fetched_dr : (s.fetched).dr = s.dr := rfl
@[simp] theorem State.fetched_filt : (s.fetched).filt = s.filt := rfl
@[simp] theorem State.fetched_ovrcnt : (s.fetched).ovrcnt = s.ovrcnt := rfl
@[simp] theorem State.fetched_unc : (s.fetched).unc = s.unc := rfl
@[simp] theorem State.fetched_dreq : (s.fetched).dreq = s.dreq := rfl
@[simp] theorem State.fetched_widx : (s.fetched).widx = s.widx := rfl
@[simp] theorem State.fetched_ustate : (s.fetched).ustate = s.ustate := rfl
@[simp] theorem State.fetched_ucur : (s.fetched).ucur = s.ucur := rfl
@[simp] theorem State.fetched_uacc : (s.fetched).uacc = s.uacc := rfl
@[simp] theorem State.fetched_ubase : (s.fetched).ubase = s.ubase := rfl
@[simp] theorem State.fetched_trigp : (s.fetched).trigp = s.trigp := rfl
@[simp] theorem State.fetched_tkind : (s.fetched).tkind = s.tkind := rfl
@[simp] theorem State.fetched_psccnt : (s.fetched).psccnt = s.psccnt := rfl
@[simp] theorem State.fetched_tdir : (s.fetched).tdir = s.tdir := rfl
@[simp] theorem State.fetched_ccra : (s.fetched).ccra = s.ccra := rfl
@[simp] theorem State.fetched_mem : (s.fetched).mem = s.mem := rfl
@[simp] theorem State.fetched_plat : (s.fetched).plat = s.plat := rfl
@[simp] theorem State.fetched_resp : (s.fetched).resp = s.resp := rfl

end fetched

section setFlagIf
variable (s : State) (c : Bool) (f : Flag)

@[simp] theorem State.setFlagIf_ctrl : (s.setFlagIf c f).ctrl = s.ctrl := by cases c <;> rfl
@[simp] theorem State.setFlagIf_adccfg : (s.setFlagIf c f).adccfg = s.adccfg := by cases c <;> rfl
@[simp] theorem State.setFlagIf_rbase : (s.setFlagIf c f).rbase = s.rbase := by cases c <;> rfl
@[simp] theorem State.setFlagIf_rlen : (s.setFlagIf c f).rlen = s.rlen := by cases c <;> rfl
@[simp] theorem State.setFlagIf_arr : (s.setFlagIf c f).arr = s.arr := by cases c <;> rfl
@[simp] theorem State.setFlagIf_psc : (s.setFlagIf c f).psc = s.psc := by cases c <;> rfl
@[simp] theorem State.setFlagIf_ccr : (s.setFlagIf c f).ccr = s.ccr := by cases c <;> rfl
@[simp] theorem State.setFlagIf_cnt : (s.setFlagIf c f).cnt = s.cnt := by cases c <;> rfl
@[simp] theorem State.setFlagIf_ier : (s.setFlagIf c f).ier = s.ier := by cases c <;> rfl
@[simp] theorem State.setFlagIf_dr : (s.setFlagIf c f).dr = s.dr := by cases c <;> rfl
@[simp] theorem State.setFlagIf_filt : (s.setFlagIf c f).filt = s.filt := by cases c <;> rfl
@[simp] theorem State.setFlagIf_ovrcnt : (s.setFlagIf c f).ovrcnt = s.ovrcnt := by cases c <;> rfl
@[simp] theorem State.setFlagIf_unc : (s.setFlagIf c f).unc = s.unc := by cases c <;> rfl
@[simp] theorem State.setFlagIf_dreq : (s.setFlagIf c f).dreq = s.dreq := by cases c <;> rfl
@[simp] theorem State.setFlagIf_widx : (s.setFlagIf c f).widx = s.widx := by cases c <;> rfl
@[simp] theorem State.setFlagIf_ustate : (s.setFlagIf c f).ustate = s.ustate := by cases c <;> rfl
@[simp] theorem State.setFlagIf_ucur : (s.setFlagIf c f).ucur = s.ucur := by cases c <;> rfl
@[simp] theorem State.setFlagIf_uacc : (s.setFlagIf c f).uacc = s.uacc := by cases c <;> rfl
@[simp] theorem State.setFlagIf_ubase : (s.setFlagIf c f).ubase = s.ubase := by cases c <;> rfl
@[simp] theorem State.setFlagIf_trigp : (s.setFlagIf c f).trigp = s.trigp := by cases c <;> rfl
@[simp] theorem State.setFlagIf_tkind : (s.setFlagIf c f).tkind = s.tkind := by cases c <;> rfl
@[simp] theorem State.setFlagIf_psccnt : (s.setFlagIf c f).psccnt = s.psccnt := by cases c <;> rfl
@[simp] theorem State.setFlagIf_tdir : (s.setFlagIf c f).tdir = s.tdir := by cases c <;> rfl
@[simp] theorem State.setFlagIf_ccra : (s.setFlagIf c f).ccra = s.ccra := by cases c <;> rfl
@[simp] theorem State.setFlagIf_mem : (s.setFlagIf c f).mem = s.mem := by cases c <;> rfl
@[simp] theorem State.setFlagIf_plat : (s.setFlagIf c f).plat = s.plat := by cases c <;> rfl
@[simp] theorem State.setFlagIf_hostHalted : (s.setFlagIf c f).hostHalted = s.hostHalted := by cases c <;> rfl
@[simp] theorem State.setFlagIf_inputs : (s.setFlagIf c f).inputs = s.inputs := by cases c <;> rfl
@[simp] theorem State.setFlagIf_stepNo : (s.setFlagIf c f).stepNo = s.stepNo := by cases c <;> rfl
@[simp] theorem State.setFlagIf_resp : (s.setFlagIf c f).resp = s.resp := by cases c <;> rfl

end setFlagIf

section checkTornRead
variable (s : State) (i : Nat)

@[simp] theorem State.checkTornRead_ctrl : (s.checkTornRead i).ctrl = s.ctrl := by simp [State.checkTornRead]
@[simp] theorem State.checkTornRead_adccfg : (s.checkTornRead i).adccfg = s.adccfg := by simp [State.checkTornRead]
@[simp] theorem State.checkTornRead_rbase : (s.checkTornRead i).rbase = s.rbase := by simp [State.checkTornRead]
@[simp] theorem State.checkTornRead_rlen : (s.checkTornRead i).rlen = s.rlen := by simp [State.checkTornRead]
@[simp] theorem State.checkTornRead_arr : (s.checkTornRead i).arr = s.arr := by simp [State.checkTornRead]
@[simp] theorem State.checkTornRead_psc : (s.checkTornRead i).psc = s.psc := by simp [State.checkTornRead]
@[simp] theorem State.checkTornRead_ccr : (s.checkTornRead i).ccr = s.ccr := by simp [State.checkTornRead]
@[simp] theorem State.checkTornRead_cnt : (s.checkTornRead i).cnt = s.cnt := by simp [State.checkTornRead]
@[simp] theorem State.checkTornRead_ier : (s.checkTornRead i).ier = s.ier := by simp [State.checkTornRead]
@[simp] theorem State.checkTornRead_dr : (s.checkTornRead i).dr = s.dr := by simp [State.checkTornRead]
@[simp] theorem State.checkTornRead_filt : (s.checkTornRead i).filt = s.filt := by simp [State.checkTornRead]
@[simp] theorem State.checkTornRead_ovrcnt : (s.checkTornRead i).ovrcnt = s.ovrcnt := by simp [State.checkTornRead]
@[simp] theorem State.checkTornRead_unc : (s.checkTornRead i).unc = s.unc := by simp [State.checkTornRead]
@[simp] theorem State.checkTornRead_dreq : (s.checkTornRead i).dreq = s.dreq := by simp [State.checkTornRead]
@[simp] theorem State.checkTornRead_widx : (s.checkTornRead i).widx = s.widx := by simp [State.checkTornRead]
@[simp] theorem State.checkTornRead_ustate : (s.checkTornRead i).ustate = s.ustate := by simp [State.checkTornRead]
@[simp] theorem State.checkTornRead_ucur : (s.checkTornRead i).ucur = s.ucur := by simp [State.checkTornRead]
@[simp] theorem State.checkTornRead_uacc : (s.checkTornRead i).uacc = s.uacc := by simp [State.checkTornRead]
@[simp] theorem State.checkTornRead_ubase : (s.checkTornRead i).ubase = s.ubase := by simp [State.checkTornRead]
@[simp] theorem State.checkTornRead_trigp : (s.checkTornRead i).trigp = s.trigp := by simp [State.checkTornRead]
@[simp] theorem State.checkTornRead_tkind : (s.checkTornRead i).tkind = s.tkind := by simp [State.checkTornRead]
@[simp] theorem State.checkTornRead_psccnt : (s.checkTornRead i).psccnt = s.psccnt := by simp [State.checkTornRead]
@[simp] theorem State.checkTornRead_tdir : (s.checkTornRead i).tdir = s.tdir := by simp [State.checkTornRead]
@[simp] theorem State.checkTornRead_ccra : (s.checkTornRead i).ccra = s.ccra := by simp [State.checkTornRead]
@[simp] theorem State.checkTornRead_mem : (s.checkTornRead i).mem = s.mem := by simp [State.checkTornRead]
@[simp] theorem State.checkTornRead_plat : (s.checkTornRead i).plat = s.plat := by simp [State.checkTornRead]
@[simp] theorem State.checkTornRead_hostHalted : (s.checkTornRead i).hostHalted = s.hostHalted := by simp [State.checkTornRead]
@[simp] theorem State.checkTornRead_inputs : (s.checkTornRead i).inputs = s.inputs := by simp [State.checkTornRead]
@[simp] theorem State.checkTornRead_stepNo : (s.checkTornRead i).stepNo = s.stepNo := by simp [State.checkTornRead]
@[simp] theorem State.checkTornRead_resp : (s.checkTornRead i).resp = s.resp := by simp [State.checkTornRead]

end checkTornRead

section trigger
variable (s : State) (k : TKind)

@[simp] theorem State.trigger_ctrl : (s.trigger k).ctrl = s.ctrl := by simp [State.trigger]
@[simp] theorem State.trigger_adccfg : (s.trigger k).adccfg = s.adccfg := by simp [State.trigger]
@[simp] theorem State.trigger_rbase : (s.trigger k).rbase = s.rbase := by simp [State.trigger]
@[simp] theorem State.trigger_rlen : (s.trigger k).rlen = s.rlen := by simp [State.trigger]
@[simp] theorem State.trigger_arr : (s.trigger k).arr = s.arr := by simp [State.trigger]
@[simp] theorem State.trigger_psc : (s.trigger k).psc = s.psc := by simp [State.trigger]
@[simp] theorem State.trigger_ccr : (s.trigger k).ccr = s.ccr := by simp [State.trigger]
@[simp] theorem State.trigger_cnt : (s.trigger k).cnt = s.cnt := by simp [State.trigger]
@[simp] theorem State.trigger_ier : (s.trigger k).ier = s.ier := by simp [State.trigger]
@[simp] theorem State.trigger_dr : (s.trigger k).dr = s.dr := by simp [State.trigger]
@[simp] theorem State.trigger_filt : (s.trigger k).filt = s.filt := by simp [State.trigger]
@[simp] theorem State.trigger_ovrcnt : (s.trigger k).ovrcnt = s.ovrcnt := by simp [State.trigger]
@[simp] theorem State.trigger_unc : (s.trigger k).unc = s.unc := by simp [State.trigger]
@[simp] theorem State.trigger_dreq : (s.trigger k).dreq = s.dreq := by simp [State.trigger]
@[simp] theorem State.trigger_widx : (s.trigger k).widx = s.widx := by simp [State.trigger]
@[simp] theorem State.trigger_ustate : (s.trigger k).ustate = s.ustate := by simp [State.trigger]
@[simp] theorem State.trigger_ucur : (s.trigger k).ucur = s.ucur := by simp [State.trigger]
@[simp] theorem State.trigger_uacc : (s.trigger k).uacc = s.uacc := by simp [State.trigger]
@[simp] theorem State.trigger_ubase : (s.trigger k).ubase = s.ubase := by simp [State.trigger]
@[simp] theorem State.trigger_psccnt : (s.trigger k).psccnt = s.psccnt := by simp [State.trigger]
@[simp] theorem State.trigger_tdir : (s.trigger k).tdir = s.tdir := by simp [State.trigger]
@[simp] theorem State.trigger_ccra : (s.trigger k).ccra = s.ccra := by simp [State.trigger]
@[simp] theorem State.trigger_mem : (s.trigger k).mem = s.mem := by simp [State.trigger]
@[simp] theorem State.trigger_plat : (s.trigger k).plat = s.plat := by simp [State.trigger]
@[simp] theorem State.trigger_hostHalted : (s.trigger k).hostHalted = s.hostHalted := by simp [State.trigger]
@[simp] theorem State.trigger_inputs : (s.trigger k).inputs = s.inputs := by simp [State.trigger]
@[simp] theorem State.trigger_stepNo : (s.trigger k).stepNo = s.stepNo := by simp [State.trigger]
@[simp] theorem State.trigger_resp : (s.trigger k).resp = s.resp := by simp [State.trigger]

end trigger

section triggerIf
variable (s : State) (c : Bool) (k : TKind)

@[simp] theorem State.triggerIf_ctrl : (s.triggerIf c k).ctrl = s.ctrl := by cases c <;> simp [State.triggerIf]
@[simp] theorem State.triggerIf_adccfg : (s.triggerIf c k).adccfg = s.adccfg := by cases c <;> simp [State.triggerIf]
@[simp] theorem State.triggerIf_rbase : (s.triggerIf c k).rbase = s.rbase := by cases c <;> simp [State.triggerIf]
@[simp] theorem State.triggerIf_rlen : (s.triggerIf c k).rlen = s.rlen := by cases c <;> simp [State.triggerIf]
@[simp] theorem State.triggerIf_arr : (s.triggerIf c k).arr = s.arr := by cases c <;> simp [State.triggerIf]
@[simp] theorem State.triggerIf_psc : (s.triggerIf c k).psc = s.psc := by cases c <;> simp [State.triggerIf]
@[simp] theorem State.triggerIf_ccr : (s.triggerIf c k).ccr = s.ccr := by cases c <;> simp [State.triggerIf]
@[simp] theorem State.triggerIf_cnt : (s.triggerIf c k).cnt = s.cnt := by cases c <;> simp [State.triggerIf]
@[simp] theorem State.triggerIf_ier : (s.triggerIf c k).ier = s.ier := by cases c <;> simp [State.triggerIf]
@[simp] theorem State.triggerIf_dr : (s.triggerIf c k).dr = s.dr := by cases c <;> simp [State.triggerIf]
@[simp] theorem State.triggerIf_filt : (s.triggerIf c k).filt = s.filt := by cases c <;> simp [State.triggerIf]
@[simp] theorem State.triggerIf_ovrcnt : (s.triggerIf c k).ovrcnt = s.ovrcnt := by cases c <;> simp [State.triggerIf]
@[simp] theorem State.triggerIf_unc : (s.triggerIf c k).unc = s.unc := by cases c <;> simp [State.triggerIf]
@[simp] theorem State.triggerIf_dreq : (s.triggerIf c k).dreq = s.dreq := by cases c <;> simp [State.triggerIf]
@[simp] theorem State.triggerIf_widx : (s.triggerIf c k).widx = s.widx := by cases c <;> simp [State.triggerIf]
@[simp] theorem State.triggerIf_ustate : (s.triggerIf c k).ustate = s.ustate := by cases c <;> simp [State.triggerIf]
@[simp] theorem State.triggerIf_ucur : (s.triggerIf c k).ucur = s.ucur := by cases c <;> simp [State.triggerIf]
@[simp] theorem State.triggerIf_uacc : (s.triggerIf c k).uacc = s.uacc := by cases c <;> simp [State.triggerIf]
@[simp] theorem State.triggerIf_ubase : (s.triggerIf c k).ubase = s.ubase := by cases c <;> simp [State.triggerIf]
@[simp] theorem State.triggerIf_psccnt : (s.triggerIf c k).psccnt = s.psccnt := by cases c <;> simp [State.triggerIf]
@[simp] theorem State.triggerIf_tdir : (s.triggerIf c k).tdir = s.tdir := by cases c <;> simp [State.triggerIf]
@[simp] theorem State.triggerIf_ccra : (s.triggerIf c k).ccra = s.ccra := by cases c <;> simp [State.triggerIf]
@[simp] theorem State.triggerIf_mem : (s.triggerIf c k).mem = s.mem := by cases c <;> simp [State.triggerIf]
@[simp] theorem State.triggerIf_plat : (s.triggerIf c k).plat = s.plat := by cases c <;> simp [State.triggerIf]
@[simp] theorem State.triggerIf_hostHalted : (s.triggerIf c k).hostHalted = s.hostHalted := by cases c <;> simp [State.triggerIf]
@[simp] theorem State.triggerIf_inputs : (s.triggerIf c k).inputs = s.inputs := by cases c <;> simp [State.triggerIf]
@[simp] theorem State.triggerIf_stepNo : (s.triggerIf c k).stepNo = s.stepNo := by cases c <;> simp [State.triggerIf]
@[simp] theorem State.triggerIf_resp : (s.triggerIf c k).resp = s.resp := by cases c <;> simp [State.triggerIf]

end triggerIf

section commit
variable (s : State) (m : Nat)

@[simp] theorem State.commit_ctrl : (s.commit m).ctrl = s.ctrl := by simp [State.commit]
@[simp] theorem State.commit_adccfg : (s.commit m).adccfg = s.adccfg := by simp [State.commit]
@[simp] theorem State.commit_rbase : (s.commit m).rbase = s.rbase := by simp [State.commit]
@[simp] theorem State.commit_rlen : (s.commit m).rlen = s.rlen := by simp [State.commit]
@[simp] theorem State.commit_arr : (s.commit m).arr = s.arr := by simp [State.commit]
@[simp] theorem State.commit_psc : (s.commit m).psc = s.psc := by simp [State.commit]
@[simp] theorem State.commit_cnt : (s.commit m).cnt = s.cnt := by simp [State.commit]
@[simp] theorem State.commit_ier : (s.commit m).ier = s.ier := by simp [State.commit]
@[simp] theorem State.commit_dr : (s.commit m).dr = s.dr := by simp [State.commit]
@[simp] theorem State.commit_ovrcnt : (s.commit m).ovrcnt = s.ovrcnt := by simp [State.commit]
@[simp] theorem State.commit_unc : (s.commit m).unc = s.unc := by simp [State.commit]
@[simp] theorem State.commit_dreq : (s.commit m).dreq = s.dreq := by simp [State.commit]
@[simp] theorem State.commit_widx : (s.commit m).widx = s.widx := by simp [State.commit]
@[simp] theorem State.commit_ustate : (s.commit m).ustate = s.ustate := by simp [State.commit]
@[simp] theorem State.commit_ucur : (s.commit m).ucur = s.ucur := by simp [State.commit]
@[simp] theorem State.commit_uacc : (s.commit m).uacc = s.uacc := by simp [State.commit]
@[simp] theorem State.commit_ubase : (s.commit m).ubase = s.ubase := by simp [State.commit]
@[simp] theorem State.commit_trigp : (s.commit m).trigp = s.trigp := by simp [State.commit]
@[simp] theorem State.commit_tkind : (s.commit m).tkind = s.tkind := by simp [State.commit]
@[simp] theorem State.commit_psccnt : (s.commit m).psccnt = s.psccnt := by simp [State.commit]
@[simp] theorem State.commit_tdir : (s.commit m).tdir = s.tdir := by simp [State.commit]
@[simp] theorem State.commit_ccra : (s.commit m).ccra = s.ccra := by simp [State.commit]
@[simp] theorem State.commit_mem : (s.commit m).mem = s.mem := by simp [State.commit]
@[simp] theorem State.commit_plat : (s.commit m).plat = s.plat := by simp [State.commit]
@[simp] theorem State.commit_hostHalted : (s.commit m).hostHalted = s.hostHalted := by simp [State.commit]
@[simp] theorem State.commit_inputs : (s.commit m).inputs = s.inputs := by simp [State.commit]
@[simp] theorem State.commit_stepNo : (s.commit m).stepNo = s.stepNo := by simp [State.commit]
@[simp] theorem State.commit_resp : (s.commit m).resp = s.resp := by simp [State.commit]

end commit

section written
variable (s : State)

@[simp] theorem State.setFlag_sr (f : Flag) : (s.setFlag f).sr = s.sr ||| f.mask := rfl
@[simp] theorem State.clearFlags_sr (m : BitVec 11) : (s.clearFlags m).sr = s.sr &&& ~~~m := rfl
@[simp] theorem State.answer_resp (v : Word) : (s.answer v).resp = .okayData v := rfl
@[simp] theorem State.done_resp : s.done.resp = .okay := rfl
@[simp] theorem State.busErrorAnswer_resp : s.busErrorAnswer.resp = .busError := rfl
@[simp] theorem State.consumeDR_sr : s.consumeDR.sr = s.sr &&& ~~~Flag.eoc.mask := rfl
@[simp] theorem State.consumeDR_unc : s.consumeDR.unc = false := rfl
@[simp] theorem State.dmaDisable_ctrl : s.dmaDisable.ctrl = { s.ctrl with dmaen := false } := rfl
@[simp] theorem State.dmaDisable_dreq : s.dmaDisable.dreq = false := rfl
@[simp] theorem State.teFault_sr : s.teFault.sr = s.sr ||| Flag.teif.mask := rfl
@[simp] theorem State.teFault_ctrl : s.teFault.ctrl = { s.ctrl with dmaen := false } := rfl
@[simp] theorem State.teFault_dreq : s.teFault.dreq = false := rfl
@[simp] theorem State.startPass_ubase : s.startPass.ubase = s.ringBase s.tkind := rfl
@[simp] theorem State.startPass_ucur : s.startPass.ucur = 0 := rfl
@[simp] theorem State.startPass_uacc : s.startPass.uacc = 0 := rfl
@[simp] theorem State.startPass_trigp : s.startPass.trigp = false := rfl
@[simp] theorem State.startPass_ustate : s.startPass.ustate = .updating := rfl
@[simp] theorem State.storeSlot_mem : s.storeSlot.mem = s.mem.write (s.slotAddr s.widx) 2 s.dr.toNat := rfl
@[simp] theorem State.storeSlot_dreq : s.storeSlot.dreq = false := rfl
@[simp] theorem State.timEnable_ctrl : s.timEnable.ctrl = { s.ctrl with timen := true } := rfl
@[simp] theorem State.timEnable_cnt : s.timEnable.cnt = 0 := rfl
@[simp] theorem State.timEnable_psccnt : s.timEnable.psccnt = 0 := rfl
@[simp] theorem State.timEnable_tdir : s.timEnable.tdir = .up := rfl
@[simp] theorem State.timEnable_ccra : s.timEnable.ccra = s.ccr := rfl
@[simp] theorem State.timDisable_ctrl : s.timDisable.ctrl = { s.ctrl with timen := false } := rfl
@[simp] theorem State.updateEvent_sr : s.updateEvent.sr = s.sr ||| Flag.uevf.mask := rfl
@[simp] theorem State.updateEvent_ccra : s.updateEvent.ccra = s.ccr := rfl
@[simp] theorem State.deposit_sr (x : Sample) : (s.deposit x).sr = s.sr ||| Flag.eoc.mask := rfl
@[simp] theorem State.deposit_dr (x : Sample) : (s.deposit x).dr = x := rfl
@[simp] theorem State.deposit_unc (x : Sample) : (s.deposit x).unc = true := rfl
@[simp] theorem State.writeFreeFields_ctrl (w : Ctrl) :
    (s.writeFreeFields w).ctrl = { s.ctrl with oe := w.oe, upden := w.upden } := rfl
@[simp] theorem State.writeAden_ctrl (b : Bool) : (s.writeAden b).ctrl = { s.ctrl with aden := b } := rfl
@[simp] theorem State.fetched_hostHalted : s.fetched.hostHalted = s.nextInput.halted := rfl
@[simp] theorem State.fetched_inputs : s.fetched.inputs = s.inputs.tail := rfl
@[simp] theorem State.fetched_stepNo : s.fetched.stepNo = s.stepNo + 1 := rfl
@[simp] theorem State.setFlagIf_sr (c : Bool) (f : Flag) :
    (s.setFlagIf c f).sr = if c then s.sr ||| f.mask else s.sr := by cases c <;> rfl
@[simp] theorem State.checkTornRead_sr (i : Nat) :
    (s.checkTornRead i).sr = if s.tornBy i then s.sr ||| Flag.rwovf.mask else s.sr := by simp [State.checkTornRead]
@[simp] theorem State.trigger_sr (k : TKind) :
    (s.trigger k).sr = if s.trigp || s.ustate == .updating then s.sr ||| Flag.uovf.mask else s.sr := by simp [State.trigger]
@[simp] theorem State.trigger_trigp (k : TKind) : (s.trigger k).trigp = true := rfl
@[simp] theorem State.trigger_tkind (k : TKind) : (s.trigger k).tkind = k := rfl
@[simp] theorem State.triggerIf_sr (c : Bool) (k : TKind) :
    (s.triggerIf c k).sr = if c && (s.trigp || s.ustate == .updating) then s.sr ||| Flag.uovf.mask else s.sr := by
  cases c <;> simp [State.triggerIf]
@[simp] theorem State.triggerIf_trigp (c : Bool) (k : TKind) : (s.triggerIf c k).trigp = (c || s.trigp) := by
  cases c <;> simp [State.triggerIf]
@[simp] theorem State.triggerIf_tkind (c : Bool) (k : TKind) : (s.triggerIf c k).tkind = if c then k else s.tkind := by
  cases c <;> simp [State.triggerIf]
@[simp] theorem State.commit_sr (m : Nat) :
    (s.commit m).sr = (if rangeViolated m then s.sr ||| Flag.rngf.mask else s.sr) ||| Flag.udf.mask := by simp [State.commit]
@[simp] theorem State.commit_ccr (m : Nat) :
    (s.commit m).ccr = BitVec.ofNat 16 (dutyMap (clampR m) s.arr.toNat) := rfl
@[simp] theorem State.commit_filt (m : Nat) :
    (s.commit m).filt = { fval := BitVec.ofNat 12 (clampR m), duty := BitVec.ofNat 16 (dutyMap (clampR m) s.arr.toNat) } := rfl

end written

end Sys2Proof.Machine
end

