-- ==== Sys2Proof/Laws/Flags.lean ====
section
/-! SUPPORT. Flags by their bit: what setting and clearing does to each bit of SR (spec/10_state.md R42). -/

namespace Sys2Proof.Machine

theorem Flag.code_lt (f : Flag) : f.code < 11 := by cases f <;> decide

@[simp] theorem Flag.mask_getLsbD (f : Flag) (k : Nat) : f.mask.getLsbD k = decide (k = f.code) := by
  have h := f.code_lt
  unfold Flag.mask
  rw [BitVec.getLsbD_twoPow]
  by_cases hk : k = f.code
  · subst hk; simp [h]
  · have hk' : ¬ f.code = k := fun e => hk e.symm
    simp [hk, hk']

/-- Clearing EOC clears bit 0 and leaves every other. -/
theorem clearEoc_getLsbD (r : BitVec 11) (k : Nat) :
    (r &&& ~~~Flag.eoc.mask).getLsbD k = (r.getLsbD k && decide (k ≠ 0)) := by
  have hz : Flag.eoc.code = 0 := rfl
  by_cases hk : k < 11
  · rw [BitVec.getLsbD_and, BitVec.getLsbD_not, Flag.mask_getLsbD, hz]
    simp [hk]
  · have : r.getLsbD k = false := BitVec.getLsbD_of_ge r k (by omega)
    simp [this]

/-! ### Each flag operation, bit by bit -/

theorem State.setFlag_bit (s : State) (f : Flag) (k : Nat) :
    (s.setFlag f).sr.getLsbD k = (s.sr.getLsbD k || decide (k = f.code)) := by
  rw [State.setFlag_sr, BitVec.getLsbD_or, Flag.mask_getLsbD]

theorem State.setFlagIf_bit (s : State) (c : Bool) (f : Flag) (k : Nat) :
    (s.setFlagIf c f).sr.getLsbD k = (s.sr.getLsbD k || (c && decide (k = f.code))) := by
  cases c
  · exact (Bool.or_false _).symm
  · exact State.setFlag_bit s f k

theorem State.consumeDR_bit (s : State) (k : Nat) :
    s.consumeDR.sr.getLsbD k = (s.sr.getLsbD k && decide (k ≠ 0)) := clearEoc_getLsbD _ _

theorem State.trigger_bit (s : State) (t : TKind) (k : Nat) :
    (s.trigger t).sr.getLsbD k = (s.sr.getLsbD k || ((s.trigp || s.ustate == .updating) && decide (k = 6))) :=
  State.setFlagIf_bit s _ .uovf k

theorem State.triggerIf_bit (s : State) (c : Bool) (t : TKind) (k : Nat) :
    (s.triggerIf c t).sr.getLsbD k = (s.sr.getLsbD k || (c && (s.trigp || s.ustate == .updating) && decide (k = 6))) := by
  cases c
  · exact (Bool.or_false _).symm
  · exact State.trigger_bit s t k

/-- What `teFault()` does to each flag: it sets TEIF, bit 4. -/
theorem State.teFault_bit (s : State) (k : Nat) : s.teFault.sr.getLsbD k = (s.sr.getLsbD k || decide (k = 4)) :=
  State.setFlag_bit s .teif k

/-- `update_event()` sets UEVF, bit 9. -/
theorem State.updateEvent_bit (s : State) (k : Nat) : s.updateEvent.sr.getLsbD k = (s.sr.getLsbD k || decide (k = 9)) :=
  State.setFlag_bit s .uevf k

/-- The end of a pass sets UDF, bit 5, and RNGF, bit 7, when it clamps. -/
theorem State.commit_bit (s : State) (m k : Nat) :
    (s.commit m).sr.getLsbD k = (s.sr.getLsbD k || (rangeViolated m && decide (k = 7)) || decide (k = 5)) := by
  show ((s.setFlagIf (rangeViolated m) .rngf).setFlag .udf).sr.getLsbD k = _
  rw [State.setFlag_bit, State.setFlagIf_bit]
  rfl

/-- A transfer's half event: HTIF, bit 2, and what its trigger does to UOVF, bit 6. -/
theorem State.halfTransfer_bit (s : State) (n k : Nat) :
    (s.halfTransfer n).sr.getLsbD k = (s.sr.getLsbD k || (decide (n = s.halfPoint) && decide (k = 2))
      || (decide (n = s.halfPoint) && s.ctrl.pp && s.ctrl.upden && (s.trigp || s.ustate == .updating) && decide (k = 6))) := by
  unfold State.halfTransfer
  by_cases h : n = s.halfPoint
  · rw [if_pos h, State.triggerIf_bit, State.setFlag_bit, decide_eq_true h, Bool.true_and, Bool.true_and]
    rfl
  · simp [h]

/-- A transfer's full event: TCIF, bit 3, and what its trigger does to UOVF, bit 6. -/
theorem State.advanceSlot_bit (s : State) (n k : Nat) :
    (s.advanceSlot n).sr.getLsbD k = (s.sr.getLsbD k || (decide (n = s.bufLen) && decide (k = 3))
      || (decide (n = s.bufLen) && s.ctrl.upden && (s.trigp || s.ustate == .updating) && decide (k = 6))) := by
  unfold State.advanceSlot
  by_cases h : n = s.bufLen
  · rw [if_pos h, State.triggerIf_bit, decide_eq_true h, Bool.true_and, Bool.true_and]
    show ((s.setFlag .tcif).sr.getLsbD k || _) = _
    rw [State.setFlag_bit]
    rfl
  · rw [if_neg h, decide_eq_false h, Bool.false_and, Bool.false_and, Bool.false_and, Bool.false_and, Bool.or_false, Bool.or_false]

/-! The masks as the literals of the flag table. -/

theorem Flag.mask_eoc : Flag.eoc.mask = 0x001#11 := by decide
theorem Flag.mask_ovr : Flag.ovr.mask = 0x002#11 := by decide
theorem Flag.mask_htif : Flag.htif.mask = 0x004#11 := by decide
theorem Flag.mask_tcif : Flag.tcif.mask = 0x008#11 := by decide
theorem Flag.mask_teif : Flag.teif.mask = 0x010#11 := by decide
theorem Flag.mask_udf : Flag.udf.mask = 0x020#11 := by decide
theorem Flag.mask_uovf : Flag.uovf.mask = 0x040#11 := by decide
theorem Flag.mask_rngf : Flag.rngf.mask = 0x080#11 := by decide
theorem Flag.mask_cfge : Flag.cfge.mask = 0x100#11 := by decide
theorem Flag.mask_uevf : Flag.uevf.mask = 0x200#11 := by decide
theorem Flag.mask_rwovf : Flag.rwovf.mask = 0x400#11 := by decide

end Sys2Proof.Machine
end

