-- ==== Sys2Proof/Laws/Frames.lean ====
section
/-! SUPPORT. The fields each larger operation leaves alone, one lemma per field and operation: the frames of the shared operations. -/

namespace Sys2Proof.Machine

section writeLockedFields
variable (s : State) (w : Ctrl)

@[simp] theorem State.writeLockedFields_adccfg : (s.writeLockedFields w).adccfg = s.adccfg := by simp [State.writeLockedFields]
@[simp] theorem State.writeLockedFields_rbase : (s.writeLockedFields w).rbase = s.rbase := by simp [State.writeLockedFields]
@[simp] theorem State.writeLockedFields_rlen : (s.writeLockedFields w).rlen = s.rlen := by simp [State.writeLockedFields]
@[simp] theorem State.writeLockedFields_arr : (s.writeLockedFields w).arr = s.arr := by simp [State.writeLockedFields]
@[simp] theorem State.writeLockedFields_psc : (s.writeLockedFields w).psc = s.psc := by simp [State.writeLockedFields]
@[simp] theorem State.writeLockedFields_ccr : (s.writeLockedFields w).ccr = s.ccr := by simp [State.writeLockedFields]
@[simp] theorem State.writeLockedFields_cnt : (s.writeLockedFields w).cnt = s.cnt := by simp [State.writeLockedFields]
@[simp] theorem State.writeLockedFields_ier : (s.writeLockedFields w).ier = s.ier := by simp [State.writeLockedFields]
@[simp] theorem State.writeLockedFields_dr : (s.writeLockedFields w).dr = s.dr := by simp [State.writeLockedFields]
@[simp] theorem State.writeLockedFields_filt : (s.writeLockedFields w).filt = s.filt := by simp [State.writeLockedFields]
@[simp] theorem State.writeLockedFields_ovrcnt : (s.writeLockedFields w).ovrcnt = s.ovrcnt := by simp [State.writeLockedFields]
@[simp] theorem State.writeLockedFields_unc : (s.writeLockedFields w).unc = s.unc := by simp [State.writeLockedFields]
@[simp] theorem State.writeLockedFields_dreq : (s.writeLockedFields w).dreq = s.dreq := by simp [State.writeLockedFields]
@[simp] theorem State.writeLockedFields_widx : (s.writeLockedFields w).widx = s.widx := by simp [State.writeLockedFields]
@[simp] theorem State.writeLockedFields_ustate : (s.writeLockedFields w).ustate = s.ustate := by simp [State.writeLockedFields]
@[simp] theorem State.writeLockedFields_ucur : (s.writeLockedFields w).ucur = s.ucur := by simp [State.writeLockedFields]
@[simp] theorem State.writeLockedFields_uacc : (s.writeLockedFields w).uacc = s.uacc := by simp [State.writeLockedFields]
@[simp] theorem State.writeLockedFields_ubase : (s.writeLockedFields w).ubase = s.ubase := by simp [State.writeLockedFields]
@[simp] theorem State.writeLockedFields_trigp : (s.writeLockedFields w).trigp = s.trigp := by simp [State.writeLockedFields]
@[simp] theorem State.writeLockedFields_tkind : (s.writeLockedFields w).tkind = s.tkind := by simp [State.writeLockedFields]
@[simp] theorem State.writeLockedFields_psccnt : (s.writeLockedFields w).psccnt = s.psccnt := by simp [State.writeLockedFields]
@[simp] theorem State.writeLockedFields_tdir : (s.writeLockedFields w).tdir = s.tdir := by simp [State.writeLockedFields]
@[simp] theorem State.writeLockedFields_ccra : (s.writeLockedFields w).ccra = s.ccra := by simp [State.writeLockedFields]
@[simp] theorem State.writeLockedFields_mem : (s.writeLockedFields w).mem = s.mem := by simp [State.writeLockedFields]
@[simp] theorem State.writeLockedFields_plat : (s.writeLockedFields w).plat = s.plat := by simp [State.writeLockedFields]
@[simp] theorem State.writeLockedFields_hostHalted : (s.writeLockedFields w).hostHalted = s.hostHalted := by simp [State.writeLockedFields]
@[simp] theorem State.writeLockedFields_inputs : (s.writeLockedFields w).inputs = s.inputs := by simp [State.writeLockedFields]
@[simp] theorem State.writeLockedFields_stepNo : (s.writeLockedFields w).stepNo = s.stepNo := by simp [State.writeLockedFields]
@[simp] theorem State.writeLockedFields_resp : (s.writeLockedFields w).resp = s.resp := by simp [State.writeLockedFields]

end writeLockedFields

section writeTimen
variable (s : State) (b : Bool)

@[simp] theorem State.writeTimen_adccfg : (s.writeTimen b).adccfg = s.adccfg := by unfold State.writeTimen; split_ifs <;> rfl
@[simp] theorem State.writeTimen_rbase : (s.writeTimen b).rbase = s.rbase := by unfold State.writeTimen; split_ifs <;> rfl
@[simp] theorem State.writeTimen_rlen : (s.writeTimen b).rlen = s.rlen := by unfold State.writeTimen; split_ifs <;> rfl
@[simp] theorem State.writeTimen_arr : (s.writeTimen b).arr = s.arr := by unfold State.writeTimen; split_ifs <;> rfl
@[simp] theorem State.writeTimen_psc : (s.writeTimen b).psc = s.psc := by unfold State.writeTimen; split_ifs <;> rfl
@[simp] theorem State.writeTimen_ccr : (s.writeTimen b).ccr = s.ccr := by unfold State.writeTimen; split_ifs <;> rfl
@[simp] theorem State.writeTimen_sr : (s.writeTimen b).sr = s.sr := by unfold State.writeTimen; split_ifs <;> rfl
@[simp] theorem State.writeTimen_ier : (s.writeTimen b).ier = s.ier := by unfold State.writeTimen; split_ifs <;> rfl
@[simp] theorem State.writeTimen_dr : (s.writeTimen b).dr = s.dr := by unfold State.writeTimen; split_ifs <;> rfl
@[simp] theorem State.writeTimen_filt : (s.writeTimen b).filt = s.filt := by unfold State.writeTimen; split_ifs <;> rfl
@[simp] theorem State.writeTimen_ovrcnt : (s.writeTimen b).ovrcnt = s.ovrcnt := by unfold State.writeTimen; split_ifs <;> rfl
@[simp] theorem State.writeTimen_unc : (s.writeTimen b).unc = s.unc := by unfold State.writeTimen; split_ifs <;> rfl
@[simp] theorem State.writeTimen_dreq : (s.writeTimen b).dreq = s.dreq := by unfold State.writeTimen; split_ifs <;> rfl
@[simp] theorem State.writeTimen_widx : (s.writeTimen b).widx = s.widx := by unfold State.writeTimen; split_ifs <;> rfl
@[simp] theorem State.writeTimen_ustate : (s.writeTimen b).ustate = s.ustate := by unfold State.writeTimen; split_ifs <;> rfl
@[simp] theorem State.writeTimen_ucur : (s.writeTimen b).ucur = s.ucur := by unfold State.writeTimen; split_ifs <;> rfl
@[simp] theorem State.writeTimen_uacc : (s.writeTimen b).uacc = s.uacc := by unfold State.writeTimen; split_ifs <;> rfl
@[simp] theorem State.writeTimen_ubase : (s.writeTimen b).ubase = s.ubase := by unfold State.writeTimen; split_ifs <;> rfl
@[simp] theorem State.writeTimen_trigp : (s.writeTimen b).trigp = s.trigp := by unfold State.writeTimen; split_ifs <;> rfl
@[simp] theorem State.writeTimen_tkind : (s.writeTimen b).tkind = s.tkind := by unfold State.writeTimen; split_ifs <;> rfl
@[simp] theorem State.writeTimen_mem : (s.writeTimen b).mem = s.mem := by unfold State.writeTimen; split_ifs <;> rfl
@[simp] theorem State.writeTimen_plat : (s.writeTimen b).plat = s.plat := by unfold State.writeTimen; split_ifs <;> rfl
@[simp] theorem State.writeTimen_hostHalted : (s.writeTimen b).hostHalted = s.hostHalted := by unfold State.writeTimen; split_ifs <;> rfl
@[simp] theorem State.writeTimen_inputs : (s.writeTimen b).inputs = s.inputs := by unfold State.writeTimen; split_ifs <;> rfl
@[simp] theorem State.writeTimen_stepNo : (s.writeTimen b).stepNo = s.stepNo := by unfold State.writeTimen; split_ifs <;> rfl
@[simp] theorem State.writeTimen_resp : (s.writeTimen b).resp = s.resp := by unfold State.writeTimen; split_ifs <;> rfl

end writeTimen

section dmaEnable
variable (s : State)

@[simp] theorem State.dmaEnable_adccfg : (s.dmaEnable).adccfg = s.adccfg := by unfold State.dmaEnable; split_ifs <;> rfl
@[simp] theorem State.dmaEnable_rbase : (s.dmaEnable).rbase = s.rbase := by unfold State.dmaEnable; split_ifs <;> rfl
@[simp] theorem State.dmaEnable_rlen : (s.dmaEnable).rlen = s.rlen := by unfold State.dmaEnable; split_ifs <;> rfl
@[simp] theorem State.dmaEnable_arr : (s.dmaEnable).arr = s.arr := by unfold State.dmaEnable; split_ifs <;> rfl
@[simp] theorem State.dmaEnable_psc : (s.dmaEnable).psc = s.psc := by unfold State.dmaEnable; split_ifs <;> rfl
@[simp] theorem State.dmaEnable_ccr : (s.dmaEnable).ccr = s.ccr := by unfold State.dmaEnable; split_ifs <;> rfl
@[simp] theorem State.dmaEnable_cnt : (s.dmaEnable).cnt = s.cnt := by unfold State.dmaEnable; split_ifs <;> rfl
@[simp] theorem State.dmaEnable_ier : (s.dmaEnable).ier = s.ier := by unfold State.dmaEnable; split_ifs <;> rfl
@[simp] theorem State.dmaEnable_dr : (s.dmaEnable).dr = s.dr := by unfold State.dmaEnable; split_ifs <;> rfl
@[simp] theorem State.dmaEnable_filt : (s.dmaEnable).filt = s.filt := by unfold State.dmaEnable; split_ifs <;> rfl
@[simp] theorem State.dmaEnable_ovrcnt : (s.dmaEnable).ovrcnt = s.ovrcnt := by unfold State.dmaEnable; split_ifs <;> rfl
@[simp] theorem State.dmaEnable_unc : (s.dmaEnable).unc = s.unc := by unfold State.dmaEnable; split_ifs <;> rfl
@[simp] theorem State.dmaEnable_ustate : (s.dmaEnable).ustate = s.ustate := by unfold State.dmaEnable; split_ifs <;> rfl
@[simp] theorem State.dmaEnable_ucur : (s.dmaEnable).ucur = s.ucur := by unfold State.dmaEnable; split_ifs <;> rfl
@[simp] theorem State.dmaEnable_uacc : (s.dmaEnable).uacc = s.uacc := by unfold State.dmaEnable; split_ifs <;> rfl
@[simp] theorem State.dmaEnable_ubase : (s.dmaEnable).ubase = s.ubase := by unfold State.dmaEnable; split_ifs <;> rfl
@[simp] theorem State.dmaEnable_trigp : (s.dmaEnable).trigp = s.trigp := by unfold State.dmaEnable; split_ifs <;> rfl
@[simp] theorem State.dmaEnable_tkind : (s.dmaEnable).tkind = s.tkind := by unfold State.dmaEnable; split_ifs <;> rfl
@[simp] theorem State.dmaEnable_psccnt : (s.dmaEnable).psccnt = s.psccnt := by unfold State.dmaEnable; split_ifs <;> rfl
@[simp] theorem State.dmaEnable_tdir : (s.dmaEnable).tdir = s.tdir := by unfold State.dmaEnable; split_ifs <;> rfl
@[simp] theorem State.dmaEnable_ccra : (s.dmaEnable).ccra = s.ccra := by unfold State.dmaEnable; split_ifs <;> rfl
@[simp] theorem State.dmaEnable_mem : (s.dmaEnable).mem = s.mem := by unfold State.dmaEnable; split_ifs <;> rfl
@[simp] theorem State.dmaEnable_plat : (s.dmaEnable).plat = s.plat := by unfold State.dmaEnable; split_ifs <;> rfl
@[simp] theorem State.dmaEnable_hostHalted : (s.dmaEnable).hostHalted = s.hostHalted := by unfold State.dmaEnable; split_ifs <;> rfl
@[simp] theorem State.dmaEnable_inputs : (s.dmaEnable).inputs = s.inputs := by unfold State.dmaEnable; split_ifs <;> rfl
@[simp] theorem State.dmaEnable_stepNo : (s.dmaEnable).stepNo = s.stepNo := by unfold State.dmaEnable; split_ifs <;> rfl
@[simp] theorem State.dmaEnable_resp : (s.dmaEnable).resp = s.resp := by unfold State.dmaEnable; split_ifs <;> rfl

end dmaEnable

section writeDmaen
variable (s : State) (b : Bool)

@[simp] theorem State.writeDmaen_adccfg : (s.writeDmaen b).adccfg = s.adccfg := by unfold State.writeDmaen; split_ifs <;> simp
@[simp] theorem State.writeDmaen_rbase : (s.writeDmaen b).rbase = s.rbase := by unfold State.writeDmaen; split_ifs <;> simp
@[simp] theorem State.writeDmaen_rlen : (s.writeDmaen b).rlen = s.rlen := by unfold State.writeDmaen; split_ifs <;> simp
@[simp] theorem State.writeDmaen_arr : (s.writeDmaen b).arr = s.arr := by unfold State.writeDmaen; split_ifs <;> simp
@[simp] theorem State.writeDmaen_psc : (s.writeDmaen b).psc = s.psc := by unfold State.writeDmaen; split_ifs <;> simp
@[simp] theorem State.writeDmaen_ccr : (s.writeDmaen b).ccr = s.ccr := by unfold State.writeDmaen; split_ifs <;> simp
@[simp] theorem State.writeDmaen_cnt : (s.writeDmaen b).cnt = s.cnt := by unfold State.writeDmaen; split_ifs <;> simp
@[simp] theorem State.writeDmaen_ier : (s.writeDmaen b).ier = s.ier := by unfold State.writeDmaen; split_ifs <;> simp
@[simp] theorem State.writeDmaen_dr : (s.writeDmaen b).dr = s.dr := by unfold State.writeDmaen; split_ifs <;> simp
@[simp] theorem State.writeDmaen_filt : (s.writeDmaen b).filt = s.filt := by unfold State.writeDmaen; split_ifs <;> simp
@[simp] theorem State.writeDmaen_ovrcnt : (s.writeDmaen b).ovrcnt = s.ovrcnt := by unfold State.writeDmaen; split_ifs <;> simp
@[simp] theorem State.writeDmaen_unc : (s.writeDmaen b).unc = s.unc := by unfold State.writeDmaen; split_ifs <;> simp
@[simp] theorem State.writeDmaen_ustate : (s.writeDmaen b).ustate = s.ustate := by unfold State.writeDmaen; split_ifs <;> simp
@[simp] theorem State.writeDmaen_ucur : (s.writeDmaen b).ucur = s.ucur := by unfold State.writeDmaen; split_ifs <;> simp
@[simp] theorem State.writeDmaen_uacc : (s.writeDmaen b).uacc = s.uacc := by unfold State.writeDmaen; split_ifs <;> simp
@[simp] theorem State.writeDmaen_ubase : (s.writeDmaen b).ubase = s.ubase := by unfold State.writeDmaen; split_ifs <;> simp
@[simp] theorem State.writeDmaen_trigp : (s.writeDmaen b).trigp = s.trigp := by unfold State.writeDmaen; split_ifs <;> simp
@[simp] theorem State.writeDmaen_tkind : (s.writeDmaen b).tkind = s.tkind := by unfold State.writeDmaen; split_ifs <;> simp
@[simp] theorem State.writeDmaen_psccnt : (s.writeDmaen b).psccnt = s.psccnt := by unfold State.writeDmaen; split_ifs <;> simp
@[simp] theorem State.writeDmaen_tdir : (s.writeDmaen b).tdir = s.tdir := by unfold State.writeDmaen; split_ifs <;> simp
@[simp] theorem State.writeDmaen_ccra : (s.writeDmaen b).ccra = s.ccra := by unfold State.writeDmaen; split_ifs <;> simp
@[simp] theorem State.writeDmaen_mem : (s.writeDmaen b).mem = s.mem := by unfold State.writeDmaen; split_ifs <;> simp
@[simp] theorem State.writeDmaen_plat : (s.writeDmaen b).plat = s.plat := by unfold State.writeDmaen; split_ifs <;> simp
@[simp] theorem State.writeDmaen_hostHalted : (s.writeDmaen b).hostHalted = s.hostHalted := by unfold State.writeDmaen; split_ifs <;> simp
@[simp] theorem State.writeDmaen_inputs : (s.writeDmaen b).inputs = s.inputs := by unfold State.writeDmaen; split_ifs <;> simp
@[simp] theorem State.writeDmaen_stepNo : (s.writeDmaen b).stepNo = s.stepNo := by unfold State.writeDmaen; split_ifs <;> simp
@[simp] theorem State.writeDmaen_resp : (s.writeDmaen b).resp = s.resp := by unfold State.writeDmaen; split_ifs <;> simp

end writeDmaen

section writeCtrl
variable (s : State) (w : Ctrl)

@[simp] theorem State.writeCtrl_adccfg : (s.writeCtrl w).adccfg = s.adccfg := by simp [State.writeCtrl]
@[simp] theorem State.writeCtrl_rbase : (s.writeCtrl w).rbase = s.rbase := by simp [State.writeCtrl]
@[simp] theorem State.writeCtrl_rlen : (s.writeCtrl w).rlen = s.rlen := by simp [State.writeCtrl]
@[simp] theorem State.writeCtrl_arr : (s.writeCtrl w).arr = s.arr := by simp [State.writeCtrl]
@[simp] theorem State.writeCtrl_psc : (s.writeCtrl w).psc = s.psc := by simp [State.writeCtrl]
@[simp] theorem State.writeCtrl_ccr : (s.writeCtrl w).ccr = s.ccr := by simp [State.writeCtrl]
@[simp] theorem State.writeCtrl_ier : (s.writeCtrl w).ier = s.ier := by simp [State.writeCtrl]
@[simp] theorem State.writeCtrl_dr : (s.writeCtrl w).dr = s.dr := by simp [State.writeCtrl]
@[simp] theorem State.writeCtrl_filt : (s.writeCtrl w).filt = s.filt := by simp [State.writeCtrl]
@[simp] theorem State.writeCtrl_ovrcnt : (s.writeCtrl w).ovrcnt = s.ovrcnt := by simp [State.writeCtrl]
@[simp] theorem State.writeCtrl_unc : (s.writeCtrl w).unc = s.unc := by simp [State.writeCtrl]
@[simp] theorem State.writeCtrl_ustate : (s.writeCtrl w).ustate = s.ustate := by simp [State.writeCtrl]
@[simp] theorem State.writeCtrl_ucur : (s.writeCtrl w).ucur = s.ucur := by simp [State.writeCtrl]
@[simp] theorem State.writeCtrl_uacc : (s.writeCtrl w).uacc = s.uacc := by simp [State.writeCtrl]
@[simp] theorem State.writeCtrl_ubase : (s.writeCtrl w).ubase = s.ubase := by simp [State.writeCtrl]
@[simp] theorem State.writeCtrl_trigp : (s.writeCtrl w).trigp = s.trigp := by simp [State.writeCtrl]
@[simp] theorem State.writeCtrl_tkind : (s.writeCtrl w).tkind = s.tkind := by simp [State.writeCtrl]
@[simp] theorem State.writeCtrl_mem : (s.writeCtrl w).mem = s.mem := by simp [State.writeCtrl]
@[simp] theorem State.writeCtrl_plat : (s.writeCtrl w).plat = s.plat := by simp [State.writeCtrl]
@[simp] theorem State.writeCtrl_hostHalted : (s.writeCtrl w).hostHalted = s.hostHalted := by simp [State.writeCtrl]
@[simp] theorem State.writeCtrl_inputs : (s.writeCtrl w).inputs = s.inputs := by simp [State.writeCtrl]
@[simp] theorem State.writeCtrl_stepNo : (s.writeCtrl w).stepNo = s.stepNo := by simp [State.writeCtrl]
@[simp] theorem State.writeCtrl_resp : (s.writeCtrl w).resp = s.resp := by simp [State.writeCtrl]

end writeCtrl

section noteOverrun
variable (s : State)

@[simp] theorem State.noteOverrun_ctrl : (s.noteOverrun).ctrl = s.ctrl := by unfold State.noteOverrun; split_ifs <;> rfl
@[simp] theorem State.noteOverrun_adccfg : (s.noteOverrun).adccfg = s.adccfg := by unfold State.noteOverrun; split_ifs <;> rfl
@[simp] theorem State.noteOverrun_rbase : (s.noteOverrun).rbase = s.rbase := by unfold State.noteOverrun; split_ifs <;> rfl
@[simp] theorem State.noteOverrun_rlen : (s.noteOverrun).rlen = s.rlen := by unfold State.noteOverrun; split_ifs <;> rfl
@[simp] theorem State.noteOverrun_arr : (s.noteOverrun).arr = s.arr := by unfold State.noteOverrun; split_ifs <;> rfl
@[simp] theorem State.noteOverrun_psc : (s.noteOverrun).psc = s.psc := by unfold State.noteOverrun; split_ifs <;> rfl
@[simp] theorem State.noteOverrun_ccr : (s.noteOverrun).ccr = s.ccr := by unfold State.noteOverrun; split_ifs <;> rfl
@[simp] theorem State.noteOverrun_cnt : (s.noteOverrun).cnt = s.cnt := by unfold State.noteOverrun; split_ifs <;> rfl
@[simp] theorem State.noteOverrun_ier : (s.noteOverrun).ier = s.ier := by unfold State.noteOverrun; split_ifs <;> rfl
@[simp] theorem State.noteOverrun_dr : (s.noteOverrun).dr = s.dr := by unfold State.noteOverrun; split_ifs <;> rfl
@[simp] theorem State.noteOverrun_filt : (s.noteOverrun).filt = s.filt := by unfold State.noteOverrun; split_ifs <;> rfl
@[simp] theorem State.noteOverrun_unc : (s.noteOverrun).unc = s.unc := by unfold State.noteOverrun; split_ifs <;> rfl
@[simp] theorem State.noteOverrun_dreq : (s.noteOverrun).dreq = s.dreq := by unfold State.noteOverrun; split_ifs <;> rfl
@[simp] theorem State.noteOverrun_widx : (s.noteOverrun).widx = s.widx := by unfold State.noteOverrun; split_ifs <;> rfl
@[simp] theorem State.noteOverrun_ustate : (s.noteOverrun).ustate = s.ustate := by unfold State.noteOverrun; split_ifs <;> rfl
@[simp] theorem State.noteOverrun_ucur : (s.noteOverrun).ucur = s.ucur := by unfold State.noteOverrun; split_ifs <;> rfl
@[simp] theorem State.noteOverrun_uacc : (s.noteOverrun).uacc = s.uacc := by unfold State.noteOverrun; split_ifs <;> rfl
@[simp] theorem State.noteOverrun_ubase : (s.noteOverrun).ubase = s.ubase := by unfold State.noteOverrun; split_ifs <;> rfl
@[simp] theorem State.noteOverrun_trigp : (s.noteOverrun).trigp = s.trigp := by unfold State.noteOverrun; split_ifs <;> rfl
@[simp] theorem State.noteOverrun_tkind : (s.noteOverrun).tkind = s.tkind := by unfold State.noteOverrun; split_ifs <;> rfl
@[simp] theorem State.noteOverrun_psccnt : (s.noteOverrun).psccnt = s.psccnt := by unfold State.noteOverrun; split_ifs <;> rfl
@[simp] theorem State.noteOverrun_tdir : (s.noteOverrun).tdir = s.tdir := by unfold State.noteOverrun; split_ifs <;> rfl
@[simp] theorem State.noteOverrun_ccra : (s.noteOverrun).ccra = s.ccra := by unfold State.noteOverrun; split_ifs <;> rfl
@[simp] theorem State.noteOverrun_mem : (s.noteOverrun).mem = s.mem := by unfold State.noteOverrun; split_ifs <;> rfl
@[simp] theorem State.noteOverrun_plat : (s.noteOverrun).plat = s.plat := by unfold State.noteOverrun; split_ifs <;> rfl
@[simp] theorem State.noteOverrun_hostHalted : (s.noteOverrun).hostHalted = s.hostHalted := by unfold State.noteOverrun; split_ifs <;> rfl
@[simp] theorem State.noteOverrun_inputs : (s.noteOverrun).inputs = s.inputs := by unfold State.noteOverrun; split_ifs <;> rfl
@[simp] theorem State.noteOverrun_stepNo : (s.noteOverrun).stepNo = s.stepNo := by unfold State.noteOverrun; split_ifs <;> rfl
@[simp] theorem State.noteOverrun_resp : (s.noteOverrun).resp = s.resp := by unfold State.noteOverrun; split_ifs <;> rfl

end noteOverrun

section requestService
variable (s : State)

@[simp] theorem State.requestService_ctrl : (s.requestService).ctrl = s.ctrl := by simp [State.requestService]
@[simp] theorem State.requestService_adccfg : (s.requestService).adccfg = s.adccfg := by simp [State.requestService]
@[simp] theorem State.requestService_rbase : (s.requestService).rbase = s.rbase := by simp [State.requestService]
@[simp] theorem State.requestService_rlen : (s.requestService).rlen = s.rlen := by simp [State.requestService]
@[simp] theorem State.requestService_arr : (s.requestService).arr = s.arr := by simp [State.requestService]
@[simp] theorem State.requestService_psc : (s.requestService).psc = s.psc := by simp [State.requestService]
@[simp] theorem State.requestService_ccr : (s.requestService).ccr = s.ccr := by simp [State.requestService]
@[simp] theorem State.requestService_cnt : (s.requestService).cnt = s.cnt := by simp [State.requestService]
@[simp] theorem State.requestService_ier : (s.requestService).ier = s.ier := by simp [State.requestService]
@[simp] theorem State.requestService_dr : (s.requestService).dr = s.dr := by simp [State.requestService]
@[simp] theorem State.requestService_filt : (s.requestService).filt = s.filt := by simp [State.requestService]
@[simp] theorem State.requestService_ovrcnt : (s.requestService).ovrcnt = s.ovrcnt := by simp [State.requestService]
@[simp] theorem State.requestService_unc : (s.requestService).unc = s.unc := by simp [State.requestService]
@[simp] theorem State.requestService_widx : (s.requestService).widx = s.widx := by simp [State.requestService]
@[simp] theorem State.requestService_ustate : (s.requestService).ustate = s.ustate := by simp [State.requestService]
@[simp] theorem State.requestService_ucur : (s.requestService).ucur = s.ucur := by simp [State.requestService]
@[simp] theorem State.requestService_uacc : (s.requestService).uacc = s.uacc := by simp [State.requestService]
@[simp] theorem State.requestService_ubase : (s.requestService).ubase = s.ubase := by simp [State.requestService]
@[simp] theorem State.requestService_psccnt : (s.requestService).psccnt = s.psccnt := by simp [State.requestService]
@[simp] theorem State.requestService_tdir : (s.requestService).tdir = s.tdir := by simp [State.requestService]
@[simp] theorem State.requestService_ccra : (s.requestService).ccra = s.ccra := by simp [State.requestService]
@[simp] theorem State.requestService_mem : (s.requestService).mem = s.mem := by simp [State.requestService]
@[simp] theorem State.requestService_plat : (s.requestService).plat = s.plat := by simp [State.requestService]
@[simp] theorem State.requestService_hostHalted : (s.requestService).hostHalted = s.hostHalted := by simp [State.requestService]
@[simp] theorem State.requestService_inputs : (s.requestService).inputs = s.inputs := by simp [State.requestService]
@[simp] theorem State.requestService_stepNo : (s.requestService).stepNo = s.stepNo := by simp [State.requestService]
@[simp] theorem State.requestService_resp : (s.requestService).resp = s.resp := by simp [State.requestService]

end requestService

section conversion
variable (s : State) (x : Sample)

@[simp] theorem State.conversion_ctrl : (s.conversion x).ctrl = s.ctrl := by simp [State.conversion]
@[simp] theorem State.conversion_adccfg : (s.conversion x).adccfg = s.adccfg := by simp [State.conversion]
@[simp] theorem State.conversion_rbase : (s.conversion x).rbase = s.rbase := by simp [State.conversion]
@[simp] theorem State.conversion_rlen : (s.conversion x).rlen = s.rlen := by simp [State.conversion]
@[simp] theorem State.conversion_arr : (s.conversion x).arr = s.arr := by simp [State.conversion]
@[simp] theorem State.conversion_psc : (s.conversion x).psc = s.psc := by simp [State.conversion]
@[simp] theorem State.conversion_ccr : (s.conversion x).ccr = s.ccr := by simp [State.conversion]
@[simp] theorem State.conversion_cnt : (s.conversion x).cnt = s.cnt := by simp [State.conversion]
@[simp] theorem State.conversion_ier : (s.conversion x).ier = s.ier := by simp [State.conversion]
@[simp] theorem State.conversion_filt : (s.conversion x).filt = s.filt := by simp [State.conversion]
@[simp] theorem State.conversion_widx : (s.conversion x).widx = s.widx := by simp [State.conversion]
@[simp] theorem State.conversion_ustate : (s.conversion x).ustate = s.ustate := by simp [State.conversion]
@[simp] theorem State.conversion_ucur : (s.conversion x).ucur = s.ucur := by simp [State.conversion]
@[simp] theorem State.conversion_uacc : (s.conversion x).uacc = s.uacc := by simp [State.conversion]
@[simp] theorem State.conversion_ubase : (s.conversion x).ubase = s.ubase := by simp [State.conversion]
@[simp] theorem State.conversion_psccnt : (s.conversion x).psccnt = s.psccnt := by simp [State.conversion]
@[simp] theorem State.conversion_tdir : (s.conversion x).tdir = s.tdir := by simp [State.conversion]
@[simp] theorem State.conversion_ccra : (s.conversion x).ccra = s.ccra := by simp [State.conversion]
@[simp] theorem State.conversion_mem : (s.conversion x).mem = s.mem := by simp [State.conversion]
@[simp] theorem State.conversion_plat : (s.conversion x).plat = s.plat := by simp [State.conversion]
@[simp] theorem State.conversion_hostHalted : (s.conversion x).hostHalted = s.hostHalted := by simp [State.conversion]
@[simp] theorem State.conversion_inputs : (s.conversion x).inputs = s.inputs := by simp [State.conversion]
@[simp] theorem State.conversion_stepNo : (s.conversion x).stepNo = s.stepNo := by simp [State.conversion]
@[simp] theorem State.conversion_resp : (s.conversion x).resp = s.resp := by simp [State.conversion]

end conversion

section halfTransfer
variable (s : State) (k : Nat)

@[simp] theorem State.halfTransfer_ctrl : (s.halfTransfer k).ctrl = s.ctrl := by unfold State.halfTransfer; split_ifs <;> simp
@[simp] theorem State.halfTransfer_adccfg : (s.halfTransfer k).adccfg = s.adccfg := by unfold State.halfTransfer; split_ifs <;> simp
@[simp] theorem State.halfTransfer_rbase : (s.halfTransfer k).rbase = s.rbase := by unfold State.halfTransfer; split_ifs <;> simp
@[simp] theorem State.halfTransfer_rlen : (s.halfTransfer k).rlen = s.rlen := by unfold State.halfTransfer; split_ifs <;> simp
@[simp] theorem State.halfTransfer_arr : (s.halfTransfer k).arr = s.arr := by unfold State.halfTransfer; split_ifs <;> simp
@[simp] theorem State.halfTransfer_psc : (s.halfTransfer k).psc = s.psc := by unfold State.halfTransfer; split_ifs <;> simp
@[simp] theorem State.halfTransfer_ccr : (s.halfTransfer k).ccr = s.ccr := by unfold State.halfTransfer; split_ifs <;> simp
@[simp] theorem State.halfTransfer_cnt : (s.halfTransfer k).cnt = s.cnt := by unfold State.halfTransfer; split_ifs <;> simp
@[simp] theorem State.halfTransfer_ier : (s.halfTransfer k).ier = s.ier := by unfold State.halfTransfer; split_ifs <;> simp
@[simp] theorem State.halfTransfer_dr : (s.halfTransfer k).dr = s.dr := by unfold State.halfTransfer; split_ifs <;> simp
@[simp] theorem State.halfTransfer_filt : (s.halfTransfer k).filt = s.filt := by unfold State.halfTransfer; split_ifs <;> simp
@[simp] theorem State.halfTransfer_ovrcnt : (s.halfTransfer k).ovrcnt = s.ovrcnt := by unfold State.halfTransfer; split_ifs <;> simp
@[simp] theorem State.halfTransfer_unc : (s.halfTransfer k).unc = s.unc := by unfold State.halfTransfer; split_ifs <;> simp
@[simp] theorem State.halfTransfer_dreq : (s.halfTransfer k).dreq = s.dreq := by unfold State.halfTransfer; split_ifs <;> simp
@[simp] theorem State.halfTransfer_widx : (s.halfTransfer k).widx = s.widx := by unfold State.halfTransfer; split_ifs <;> simp
@[simp] theorem State.halfTransfer_ustate : (s.halfTransfer k).ustate = s.ustate := by unfold State.halfTransfer; split_ifs <;> simp
@[simp] theorem State.halfTransfer_ucur : (s.halfTransfer k).ucur = s.ucur := by unfold State.halfTransfer; split_ifs <;> simp
@[simp] theorem State.halfTransfer_uacc : (s.halfTransfer k).uacc = s.uacc := by unfold State.halfTransfer; split_ifs <;> simp
@[simp] theorem State.halfTransfer_ubase : (s.halfTransfer k).ubase = s.ubase := by unfold State.halfTransfer; split_ifs <;> simp
@[simp] theorem State.halfTransfer_psccnt : (s.halfTransfer k).psccnt = s.psccnt := by unfold State.halfTransfer; split_ifs <;> simp
@[simp] theorem State.halfTransfer_tdir : (s.halfTransfer k).tdir = s.tdir := by unfold State.halfTransfer; split_ifs <;> simp
@[simp] theorem State.halfTransfer_ccra : (s.halfTransfer k).ccra = s.ccra := by unfold State.halfTransfer; split_ifs <;> simp
@[simp] theorem State.halfTransfer_mem : (s.halfTransfer k).mem = s.mem := by unfold State.halfTransfer; split_ifs <;> simp
@[simp] theorem State.halfTransfer_plat : (s.halfTransfer k).plat = s.plat := by unfold State.halfTransfer; split_ifs <;> simp
@[simp] theorem State.halfTransfer_hostHalted : (s.halfTransfer k).hostHalted = s.hostHalted := by unfold State.halfTransfer; split_ifs <;> simp
@[simp] theorem State.halfTransfer_inputs : (s.halfTransfer k).inputs = s.inputs := by unfold State.halfTransfer; split_ifs <;> simp
@[simp] theorem State.halfTransfer_stepNo : (s.halfTransfer k).stepNo = s.stepNo := by unfold State.halfTransfer; split_ifs <;> simp
@[simp] theorem State.halfTransfer_resp : (s.halfTransfer k).resp = s.resp := by unfold State.halfTransfer; split_ifs <;> simp

end halfTransfer

section advanceSlot
variable (s : State) (k : Nat)

@[simp] theorem State.advanceSlot_ctrl : (s.advanceSlot k).ctrl = s.ctrl := by unfold State.advanceSlot; split_ifs <;> simp
@[simp] theorem State.advanceSlot_adccfg : (s.advanceSlot k).adccfg = s.adccfg := by unfold State.advanceSlot; split_ifs <;> simp
@[simp] theorem State.advanceSlot_rbase : (s.advanceSlot k).rbase = s.rbase := by unfold State.advanceSlot; split_ifs <;> simp
@[simp] theorem State.advanceSlot_rlen : (s.advanceSlot k).rlen = s.rlen := by unfold State.advanceSlot; split_ifs <;> simp
@[simp] theorem State.advanceSlot_arr : (s.advanceSlot k).arr = s.arr := by unfold State.advanceSlot; split_ifs <;> simp
@[simp] theorem State.advanceSlot_psc : (s.advanceSlot k).psc = s.psc := by unfold State.advanceSlot; split_ifs <;> simp
@[simp] theorem State.advanceSlot_ccr : (s.advanceSlot k).ccr = s.ccr := by unfold State.advanceSlot; split_ifs <;> simp
@[simp] theorem State.advanceSlot_cnt : (s.advanceSlot k).cnt = s.cnt := by unfold State.advanceSlot; split_ifs <;> simp
@[simp] theorem State.advanceSlot_ier : (s.advanceSlot k).ier = s.ier := by unfold State.advanceSlot; split_ifs <;> simp
@[simp] theorem State.advanceSlot_dr : (s.advanceSlot k).dr = s.dr := by unfold State.advanceSlot; split_ifs <;> simp
@[simp] theorem State.advanceSlot_filt : (s.advanceSlot k).filt = s.filt := by unfold State.advanceSlot; split_ifs <;> simp
@[simp] theorem State.advanceSlot_ovrcnt : (s.advanceSlot k).ovrcnt = s.ovrcnt := by unfold State.advanceSlot; split_ifs <;> simp
@[simp] theorem State.advanceSlot_unc : (s.advanceSlot k).unc = s.unc := by unfold State.advanceSlot; split_ifs <;> simp
@[simp] theorem State.advanceSlot_dreq : (s.advanceSlot k).dreq = s.dreq := by unfold State.advanceSlot; split_ifs <;> simp
@[simp] theorem State.advanceSlot_ustate : (s.advanceSlot k).ustate = s.ustate := by unfold State.advanceSlot; split_ifs <;> simp
@[simp] theorem State.advanceSlot_ucur : (s.advanceSlot k).ucur = s.ucur := by unfold State.advanceSlot; split_ifs <;> simp
@[simp] theorem State.advanceSlot_uacc : (s.advanceSlot k).uacc = s.uacc := by unfold State.advanceSlot; split_ifs <;> simp
@[simp] theorem State.advanceSlot_ubase : (s.advanceSlot k).ubase = s.ubase := by unfold State.advanceSlot; split_ifs <;> simp
@[simp] theorem State.advanceSlot_psccnt : (s.advanceSlot k).psccnt = s.psccnt := by unfold State.advanceSlot; split_ifs <;> simp
@[simp] theorem State.advanceSlot_tdir : (s.advanceSlot k).tdir = s.tdir := by unfold State.advanceSlot; split_ifs <;> simp
@[simp] theorem State.advanceSlot_ccra : (s.advanceSlot k).ccra = s.ccra := by unfold State.advanceSlot; split_ifs <;> simp
@[simp] theorem State.advanceSlot_mem : (s.advanceSlot k).mem = s.mem := by unfold State.advanceSlot; split_ifs <;> simp
@[simp] theorem State.advanceSlot_plat : (s.advanceSlot k).plat = s.plat := by unfold State.advanceSlot; split_ifs <;> simp
@[simp] theorem State.advanceSlot_hostHalted : (s.advanceSlot k).hostHalted = s.hostHalted := by unfold State.advanceSlot; split_ifs <;> simp
@[simp] theorem State.advanceSlot_inputs : (s.advanceSlot k).inputs = s.inputs := by unfold State.advanceSlot; split_ifs <;> simp
@[simp] theorem State.advanceSlot_stepNo : (s.advanceSlot k).stepNo = s.stepNo := by unfold State.advanceSlot; split_ifs <;> simp
@[simp] theorem State.advanceSlot_resp : (s.advanceSlot k).resp = s.resp := by unfold State.advanceSlot; split_ifs <;> simp

end advanceSlot

section transfer
variable (s : State)

@[simp] theorem State.transfer_adccfg : (s.transfer).adccfg = s.adccfg := by unfold State.transfer; split_ifs <;> simp
@[simp] theorem State.transfer_rbase : (s.transfer).rbase = s.rbase := by unfold State.transfer; split_ifs <;> simp
@[simp] theorem State.transfer_rlen : (s.transfer).rlen = s.rlen := by unfold State.transfer; split_ifs <;> simp
@[simp] theorem State.transfer_arr : (s.transfer).arr = s.arr := by unfold State.transfer; split_ifs <;> simp
@[simp] theorem State.transfer_psc : (s.transfer).psc = s.psc := by unfold State.transfer; split_ifs <;> simp
@[simp] theorem State.transfer_ccr : (s.transfer).ccr = s.ccr := by unfold State.transfer; split_ifs <;> simp
@[simp] theorem State.transfer_cnt : (s.transfer).cnt = s.cnt := by unfold State.transfer; split_ifs <;> simp
@[simp] theorem State.transfer_ier : (s.transfer).ier = s.ier := by unfold State.transfer; split_ifs <;> simp
@[simp] theorem State.transfer_dr : (s.transfer).dr = s.dr := by unfold State.transfer; split_ifs <;> simp
@[simp] theorem State.transfer_filt : (s.transfer).filt = s.filt := by unfold State.transfer; split_ifs <;> simp
@[simp] theorem State.transfer_ovrcnt : (s.transfer).ovrcnt = s.ovrcnt := by unfold State.transfer; split_ifs <;> simp
@[simp] theorem State.transfer_ustate : (s.transfer).ustate = s.ustate := by unfold State.transfer; split_ifs <;> simp
@[simp] theorem State.transfer_ucur : (s.transfer).ucur = s.ucur := by unfold State.transfer; split_ifs <;> simp
@[simp] theorem State.transfer_uacc : (s.transfer).uacc = s.uacc := by unfold State.transfer; split_ifs <;> simp
@[simp] theorem State.transfer_ubase : (s.transfer).ubase = s.ubase := by unfold State.transfer; split_ifs <;> simp
@[simp] theorem State.transfer_psccnt : (s.transfer).psccnt = s.psccnt := by unfold State.transfer; split_ifs <;> simp
@[simp] theorem State.transfer_tdir : (s.transfer).tdir = s.tdir := by unfold State.transfer; split_ifs <;> simp
@[simp] theorem State.transfer_ccra : (s.transfer).ccra = s.ccra := by unfold State.transfer; split_ifs <;> simp
@[simp] theorem State.transfer_plat : (s.transfer).plat = s.plat := by unfold State.transfer; split_ifs <;> simp
@[simp] theorem State.transfer_hostHalted : (s.transfer).hostHalted = s.hostHalted := by unfold State.transfer; split_ifs <;> simp
@[simp] theorem State.transfer_inputs : (s.transfer).inputs = s.inputs := by unfold State.transfer; split_ifs <;> simp
@[simp] theorem State.transfer_stepNo : (s.transfer).stepNo = s.stepNo := by unfold State.transfer; split_ifs <;> simp
@[simp] theorem State.transfer_resp : (s.transfer).resp = s.resp := by unfold State.transfer; split_ifs <;> simp

end transfer

section readSlot
variable (s : State)

@[simp] theorem State.readSlot_adccfg : (s.readSlot).adccfg = s.adccfg := by unfold State.readSlot; split_ifs <;> rfl
@[simp] theorem State.readSlot_rbase : (s.readSlot).rbase = s.rbase := by unfold State.readSlot; split_ifs <;> rfl
@[simp] theorem State.readSlot_rlen : (s.readSlot).rlen = s.rlen := by unfold State.readSlot; split_ifs <;> rfl
@[simp] theorem State.readSlot_arr : (s.readSlot).arr = s.arr := by unfold State.readSlot; split_ifs <;> rfl
@[simp] theorem State.readSlot_psc : (s.readSlot).psc = s.psc := by unfold State.readSlot; split_ifs <;> rfl
@[simp] theorem State.readSlot_ccr : (s.readSlot).ccr = s.ccr := by unfold State.readSlot; split_ifs <;> rfl
@[simp] theorem State.readSlot_cnt : (s.readSlot).cnt = s.cnt := by unfold State.readSlot; split_ifs <;> rfl
@[simp] theorem State.readSlot_ier : (s.readSlot).ier = s.ier := by unfold State.readSlot; split_ifs <;> rfl
@[simp] theorem State.readSlot_dr : (s.readSlot).dr = s.dr := by unfold State.readSlot; split_ifs <;> rfl
@[simp] theorem State.readSlot_filt : (s.readSlot).filt = s.filt := by unfold State.readSlot; split_ifs <;> rfl
@[simp] theorem State.readSlot_ovrcnt : (s.readSlot).ovrcnt = s.ovrcnt := by unfold State.readSlot; split_ifs <;> rfl
@[simp] theorem State.readSlot_unc : (s.readSlot).unc = s.unc := by unfold State.readSlot; split_ifs <;> rfl
@[simp] theorem State.readSlot_widx : (s.readSlot).widx = s.widx := by unfold State.readSlot; split_ifs <;> rfl
@[simp] theorem State.readSlot_ubase : (s.readSlot).ubase = s.ubase := by unfold State.readSlot; split_ifs <;> rfl
@[simp] theorem State.readSlot_trigp : (s.readSlot).trigp = s.trigp := by unfold State.readSlot; split_ifs <;> rfl
@[simp] theorem State.readSlot_tkind : (s.readSlot).tkind = s.tkind := by unfold State.readSlot; split_ifs <;> rfl
@[simp] theorem State.readSlot_psccnt : (s.readSlot).psccnt = s.psccnt := by unfold State.readSlot; split_ifs <;> rfl
@[simp] theorem State.readSlot_tdir : (s.readSlot).tdir = s.tdir := by unfold State.readSlot; split_ifs <;> rfl
@[simp] theorem State.readSlot_ccra : (s.readSlot).ccra = s.ccra := by unfold State.readSlot; split_ifs <;> rfl
@[simp] theorem State.readSlot_mem : (s.readSlot).mem = s.mem := by unfold State.readSlot; split_ifs <;> rfl
@[simp] theorem State.readSlot_plat : (s.readSlot).plat = s.plat := by unfold State.readSlot; split_ifs <;> rfl
@[simp] theorem State.readSlot_hostHalted : (s.readSlot).hostHalted = s.hostHalted := by unfold State.readSlot; split_ifs <;> rfl
@[simp] theorem State.readSlot_inputs : (s.readSlot).inputs = s.inputs := by unfold State.readSlot; split_ifs <;> rfl
@[simp] theorem State.readSlot_stepNo : (s.readSlot).stepNo = s.stepNo := by unfold State.readSlot; split_ifs <;> rfl
@[simp] theorem State.readSlot_resp : (s.readSlot).resp = s.resp := by unfold State.readSlot; split_ifs <;> rfl

end readSlot

section finishPass
variable (s : State)

@[simp] theorem State.finishPass_ctrl : (s.finishPass).ctrl = s.ctrl := by simp [State.finishPass]
@[simp] theorem State.finishPass_adccfg : (s.finishPass).adccfg = s.adccfg := by simp [State.finishPass]
@[simp] theorem State.finishPass_rbase : (s.finishPass).rbase = s.rbase := by simp [State.finishPass]
@[simp] theorem State.finishPass_rlen : (s.finishPass).rlen = s.rlen := by simp [State.finishPass]
@[simp] theorem State.finishPass_arr : (s.finishPass).arr = s.arr := by simp [State.finishPass]
@[simp] theorem State.finishPass_psc : (s.finishPass).psc = s.psc := by simp [State.finishPass]
@[simp] theorem State.finishPass_cnt : (s.finishPass).cnt = s.cnt := by simp [State.finishPass]
@[simp] theorem State.finishPass_ier : (s.finishPass).ier = s.ier := by simp [State.finishPass]
@[simp] theorem State.finishPass_dr : (s.finishPass).dr = s.dr := by simp [State.finishPass]
@[simp] theorem State.finishPass_ovrcnt : (s.finishPass).ovrcnt = s.ovrcnt := by simp [State.finishPass]
@[simp] theorem State.finishPass_unc : (s.finishPass).unc = s.unc := by simp [State.finishPass]
@[simp] theorem State.finishPass_dreq : (s.finishPass).dreq = s.dreq := by simp [State.finishPass]
@[simp] theorem State.finishPass_widx : (s.finishPass).widx = s.widx := by simp [State.finishPass]
@[simp] theorem State.finishPass_ucur : (s.finishPass).ucur = s.ucur := by simp [State.finishPass]
@[simp] theorem State.finishPass_uacc : (s.finishPass).uacc = s.uacc := by simp [State.finishPass]
@[simp] theorem State.finishPass_ubase : (s.finishPass).ubase = s.ubase := by simp [State.finishPass]
@[simp] theorem State.finishPass_trigp : (s.finishPass).trigp = s.trigp := by simp [State.finishPass]
@[simp] theorem State.finishPass_tkind : (s.finishPass).tkind = s.tkind := by simp [State.finishPass]
@[simp] theorem State.finishPass_psccnt : (s.finishPass).psccnt = s.psccnt := by simp [State.finishPass]
@[simp] theorem State.finishPass_tdir : (s.finishPass).tdir = s.tdir := by simp [State.finishPass]
@[simp] theorem State.finishPass_ccra : (s.finishPass).ccra = s.ccra := by simp [State.finishPass]
@[simp] theorem State.finishPass_mem : (s.finishPass).mem = s.mem := by simp [State.finishPass]
@[simp] theorem State.finishPass_plat : (s.finishPass).plat = s.plat := by simp [State.finishPass]
@[simp] theorem State.finishPass_hostHalted : (s.finishPass).hostHalted = s.hostHalted := by simp [State.finishPass]
@[simp] theorem State.finishPass_inputs : (s.finishPass).inputs = s.inputs := by simp [State.finishPass]
@[simp] theorem State.finishPass_stepNo : (s.finishPass).stepNo = s.stepNo := by simp [State.finishPass]
@[simp] theorem State.finishPass_resp : (s.finishPass).resp = s.resp := by simp [State.finishPass]

end finishPass

section directPass
variable (s : State)

@[simp] theorem State.directPass_ctrl : (s.directPass).ctrl = s.ctrl := by simp [State.directPass]
@[simp] theorem State.directPass_adccfg : (s.directPass).adccfg = s.adccfg := by simp [State.directPass]
@[simp] theorem State.directPass_rbase : (s.directPass).rbase = s.rbase := by simp [State.directPass]
@[simp] theorem State.directPass_rlen : (s.directPass).rlen = s.rlen := by simp [State.directPass]
@[simp] theorem State.directPass_arr : (s.directPass).arr = s.arr := by simp [State.directPass]
@[simp] theorem State.directPass_psc : (s.directPass).psc = s.psc := by simp [State.directPass]
@[simp] theorem State.directPass_cnt : (s.directPass).cnt = s.cnt := by simp [State.directPass]
@[simp] theorem State.directPass_ier : (s.directPass).ier = s.ier := by simp [State.directPass]
@[simp] theorem State.directPass_dr : (s.directPass).dr = s.dr := by simp [State.directPass]
@[simp] theorem State.directPass_ovrcnt : (s.directPass).ovrcnt = s.ovrcnt := by simp [State.directPass]
@[simp] theorem State.directPass_dreq : (s.directPass).dreq = s.dreq := by simp [State.directPass]
@[simp] theorem State.directPass_widx : (s.directPass).widx = s.widx := by simp [State.directPass]
@[simp] theorem State.directPass_ustate : (s.directPass).ustate = s.ustate := by simp [State.directPass]
@[simp] theorem State.directPass_ucur : (s.directPass).ucur = s.ucur := by simp [State.directPass]
@[simp] theorem State.directPass_uacc : (s.directPass).uacc = s.uacc := by simp [State.directPass]
@[simp] theorem State.directPass_ubase : (s.directPass).ubase = s.ubase := by simp [State.directPass]
@[simp] theorem State.directPass_tkind : (s.directPass).tkind = s.tkind := by simp [State.directPass]
@[simp] theorem State.directPass_psccnt : (s.directPass).psccnt = s.psccnt := by simp [State.directPass]
@[simp] theorem State.directPass_tdir : (s.directPass).tdir = s.tdir := by simp [State.directPass]
@[simp] theorem State.directPass_ccra : (s.directPass).ccra = s.ccra := by simp [State.directPass]
@[simp] theorem State.directPass_mem : (s.directPass).mem = s.mem := by simp [State.directPass]
@[simp] theorem State.directPass_plat : (s.directPass).plat = s.plat := by simp [State.directPass]
@[simp] theorem State.directPass_hostHalted : (s.directPass).hostHalted = s.hostHalted := by simp [State.directPass]
@[simp] theorem State.directPass_inputs : (s.directPass).inputs = s.inputs := by simp [State.directPass]
@[simp] theorem State.directPass_stepNo : (s.directPass).stepNo = s.stepNo := by simp [State.directPass]
@[simp] theorem State.directPass_resp : (s.directPass).resp = s.resp := by simp [State.directPass]

end directPass

section countUp
variable (s : State)

@[simp] theorem State.countUp_ctrl : (s.countUp).ctrl = s.ctrl := by unfold State.countUp; split_ifs <;> rfl
@[simp] theorem State.countUp_adccfg : (s.countUp).adccfg = s.adccfg := by unfold State.countUp; split_ifs <;> rfl
@[simp] theorem State.countUp_rbase : (s.countUp).rbase = s.rbase := by unfold State.countUp; split_ifs <;> rfl
@[simp] theorem State.countUp_rlen : (s.countUp).rlen = s.rlen := by unfold State.countUp; split_ifs <;> rfl
@[simp] theorem State.countUp_arr : (s.countUp).arr = s.arr := by unfold State.countUp; split_ifs <;> rfl
@[simp] theorem State.countUp_psc : (s.countUp).psc = s.psc := by unfold State.countUp; split_ifs <;> rfl
@[simp] theorem State.countUp_ccr : (s.countUp).ccr = s.ccr := by unfold State.countUp; split_ifs <;> rfl
@[simp] theorem State.countUp_ier : (s.countUp).ier = s.ier := by unfold State.countUp; split_ifs <;> rfl
@[simp] theorem State.countUp_dr : (s.countUp).dr = s.dr := by unfold State.countUp; split_ifs <;> rfl
@[simp] theorem State.countUp_filt : (s.countUp).filt = s.filt := by unfold State.countUp; split_ifs <;> rfl
@[simp] theorem State.countUp_ovrcnt : (s.countUp).ovrcnt = s.ovrcnt := by unfold State.countUp; split_ifs <;> rfl
@[simp] theorem State.countUp_unc : (s.countUp).unc = s.unc := by unfold State.countUp; split_ifs <;> rfl
@[simp] theorem State.countUp_dreq : (s.countUp).dreq = s.dreq := by unfold State.countUp; split_ifs <;> rfl
@[simp] theorem State.countUp_widx : (s.countUp).widx = s.widx := by unfold State.countUp; split_ifs <;> rfl
@[simp] theorem State.countUp_ustate : (s.countUp).ustate = s.ustate := by unfold State.countUp; split_ifs <;> rfl
@[simp] theorem State.countUp_ucur : (s.countUp).ucur = s.ucur := by unfold State.countUp; split_ifs <;> rfl
@[simp] theorem State.countUp_uacc : (s.countUp).uacc = s.uacc := by unfold State.countUp; split_ifs <;> rfl
@[simp] theorem State.countUp_ubase : (s.countUp).ubase = s.ubase := by unfold State.countUp; split_ifs <;> rfl
@[simp] theorem State.countUp_trigp : (s.countUp).trigp = s.trigp := by unfold State.countUp; split_ifs <;> rfl
@[simp] theorem State.countUp_tkind : (s.countUp).tkind = s.tkind := by unfold State.countUp; split_ifs <;> rfl
@[simp] theorem State.countUp_psccnt : (s.countUp).psccnt = s.psccnt := by unfold State.countUp; split_ifs <;> rfl
@[simp] theorem State.countUp_tdir : (s.countUp).tdir = s.tdir := by unfold State.countUp; split_ifs <;> rfl
@[simp] theorem State.countUp_mem : (s.countUp).mem = s.mem := by unfold State.countUp; split_ifs <;> rfl
@[simp] theorem State.countUp_plat : (s.countUp).plat = s.plat := by unfold State.countUp; split_ifs <;> rfl
@[simp] theorem State.countUp_hostHalted : (s.countUp).hostHalted = s.hostHalted := by unfold State.countUp; split_ifs <;> rfl
@[simp] theorem State.countUp_inputs : (s.countUp).inputs = s.inputs := by unfold State.countUp; split_ifs <;> rfl
@[simp] theorem State.countUp_stepNo : (s.countUp).stepNo = s.stepNo := by unfold State.countUp; split_ifs <;> rfl
@[simp] theorem State.countUp_resp : (s.countUp).resp = s.resp := by unfold State.countUp; split_ifs <;> rfl

end countUp

section countCenter
variable (s : State)

@[simp] theorem State.countCenter_ctrl : (s.countCenter).ctrl = s.ctrl := by unfold State.countCenter; split <;> (try split_ifs) <;> rfl
@[simp] theorem State.countCenter_adccfg : (s.countCenter).adccfg = s.adccfg := by unfold State.countCenter; split <;> (try split_ifs) <;> rfl
@[simp] theorem State.countCenter_rbase : (s.countCenter).rbase = s.rbase := by unfold State.countCenter; split <;> (try split_ifs) <;> rfl
@[simp] theorem State.countCenter_rlen : (s.countCenter).rlen = s.rlen := by unfold State.countCenter; split <;> (try split_ifs) <;> rfl
@[simp] theorem State.countCenter_arr : (s.countCenter).arr = s.arr := by unfold State.countCenter; split <;> (try split_ifs) <;> rfl
@[simp] theorem State.countCenter_psc : (s.countCenter).psc = s.psc := by unfold State.countCenter; split <;> (try split_ifs) <;> rfl
@[simp] theorem State.countCenter_ccr : (s.countCenter).ccr = s.ccr := by unfold State.countCenter; split <;> (try split_ifs) <;> rfl
@[simp] theorem State.countCenter_ier : (s.countCenter).ier = s.ier := by unfold State.countCenter; split <;> (try split_ifs) <;> rfl
@[simp] theorem State.countCenter_dr : (s.countCenter).dr = s.dr := by unfold State.countCenter; split <;> (try split_ifs) <;> rfl
@[simp] theorem State.countCenter_filt : (s.countCenter).filt = s.filt := by unfold State.countCenter; split <;> (try split_ifs) <;> rfl
@[simp] theorem State.countCenter_ovrcnt : (s.countCenter).ovrcnt = s.ovrcnt := by unfold State.countCenter; split <;> (try split_ifs) <;> rfl
@[simp] theorem State.countCenter_unc : (s.countCenter).unc = s.unc := by unfold State.countCenter; split <;> (try split_ifs) <;> rfl
@[simp] theorem State.countCenter_dreq : (s.countCenter).dreq = s.dreq := by unfold State.countCenter; split <;> (try split_ifs) <;> rfl
@[simp] theorem State.countCenter_widx : (s.countCenter).widx = s.widx := by unfold State.countCenter; split <;> (try split_ifs) <;> rfl
@[simp] theorem State.countCenter_ustate : (s.countCenter).ustate = s.ustate := by unfold State.countCenter; split <;> (try split_ifs) <;> rfl
@[simp] theorem State.countCenter_ucur : (s.countCenter).ucur = s.ucur := by unfold State.countCenter; split <;> (try split_ifs) <;> rfl
@[simp] theorem State.countCenter_uacc : (s.countCenter).uacc = s.uacc := by unfold State.countCenter; split <;> (try split_ifs) <;> rfl
@[simp] theorem State.countCenter_ubase : (s.countCenter).ubase = s.ubase := by unfold State.countCenter; split <;> (try split_ifs) <;> rfl
@[simp] theorem State.countCenter_trigp : (s.countCenter).trigp = s.trigp := by unfold State.countCenter; split <;> (try split_ifs) <;> rfl
@[simp] theorem State.countCenter_tkind : (s.countCenter).tkind = s.tkind := by unfold State.countCenter; split <;> (try split_ifs) <;> rfl
@[simp] theorem State.countCenter_psccnt : (s.countCenter).psccnt = s.psccnt := by unfold State.countCenter; split <;> (try split_ifs) <;> rfl
@[simp] theorem State.countCenter_mem : (s.countCenter).mem = s.mem := by unfold State.countCenter; split <;> (try split_ifs) <;> rfl
@[simp] theorem State.countCenter_plat : (s.countCenter).plat = s.plat := by unfold State.countCenter; split <;> (try split_ifs) <;> rfl
@[simp] theorem State.countCenter_hostHalted : (s.countCenter).hostHalted = s.hostHalted := by unfold State.countCenter; split <;> (try split_ifs) <;> rfl
@[simp] theorem State.countCenter_inputs : (s.countCenter).inputs = s.inputs := by unfold State.countCenter; split <;> (try split_ifs) <;> rfl
@[simp] theorem State.countCenter_stepNo : (s.countCenter).stepNo = s.stepNo := by unfold State.countCenter; split <;> (try split_ifs) <;> rfl
@[simp] theorem State.countCenter_resp : (s.countCenter).resp = s.resp := by unfold State.countCenter; split <;> (try split_ifs) <;> rfl

end countCenter

section count
variable (s : State)

@[simp] theorem State.count_ctrl : (s.count).ctrl = s.ctrl := by unfold State.count; split_ifs <;> simp
@[simp] theorem State.count_adccfg : (s.count).adccfg = s.adccfg := by unfold State.count; split_ifs <;> simp
@[simp] theorem State.count_rbase : (s.count).rbase = s.rbase := by unfold State.count; split_ifs <;> simp
@[simp] theorem State.count_rlen : (s.count).rlen = s.rlen := by unfold State.count; split_ifs <;> simp
@[simp] theorem State.count_arr : (s.count).arr = s.arr := by unfold State.count; split_ifs <;> simp
@[simp] theorem State.count_psc : (s.count).psc = s.psc := by unfold State.count; split_ifs <;> simp
@[simp] theorem State.count_ccr : (s.count).ccr = s.ccr := by unfold State.count; split_ifs <;> simp
@[simp] theorem State.count_ier : (s.count).ier = s.ier := by unfold State.count; split_ifs <;> simp
@[simp] theorem State.count_dr : (s.count).dr = s.dr := by unfold State.count; split_ifs <;> simp
@[simp] theorem State.count_filt : (s.count).filt = s.filt := by unfold State.count; split_ifs <;> simp
@[simp] theorem State.count_ovrcnt : (s.count).ovrcnt = s.ovrcnt := by unfold State.count; split_ifs <;> simp
@[simp] theorem State.count_unc : (s.count).unc = s.unc := by unfold State.count; split_ifs <;> simp
@[simp] theorem State.count_dreq : (s.count).dreq = s.dreq := by unfold State.count; split_ifs <;> simp
@[simp] theorem State.count_widx : (s.count).widx = s.widx := by unfold State.count; split_ifs <;> simp
@[simp] theorem State.count_ustate : (s.count).ustate = s.ustate := by unfold State.count; split_ifs <;> simp
@[simp] theorem State.count_ucur : (s.count).ucur = s.ucur := by unfold State.count; split_ifs <;> simp
@[simp] theorem State.count_uacc : (s.count).uacc = s.uacc := by unfold State.count; split_ifs <;> simp
@[simp] theorem State.count_ubase : (s.count).ubase = s.ubase := by unfold State.count; split_ifs <;> simp
@[simp] theorem State.count_trigp : (s.count).trigp = s.trigp := by unfold State.count; split_ifs <;> simp
@[simp] theorem State.count_tkind : (s.count).tkind = s.tkind := by unfold State.count; split_ifs <;> simp
@[simp] theorem State.count_psccnt : (s.count).psccnt = s.psccnt := by unfold State.count; split_ifs <;> simp
@[simp] theorem State.count_mem : (s.count).mem = s.mem := by unfold State.count; split_ifs <;> simp
@[simp] theorem State.count_plat : (s.count).plat = s.plat := by unfold State.count; split_ifs <;> simp
@[simp] theorem State.count_hostHalted : (s.count).hostHalted = s.hostHalted := by unfold State.count; split_ifs <;> simp
@[simp] theorem State.count_inputs : (s.count).inputs = s.inputs := by unfold State.count; split_ifs <;> simp
@[simp] theorem State.count_stepNo : (s.count).stepNo = s.stepNo := by unfold State.count; split_ifs <;> simp
@[simp] theorem State.count_resp : (s.count).resp = s.resp := by unfold State.count; split_ifs <;> simp

end count

section tick
variable (s : State)

@[simp] theorem State.tick_ctrl : (s.tick).ctrl = s.ctrl := by unfold State.tick; split_ifs <;> simp
@[simp] theorem State.tick_adccfg : (s.tick).adccfg = s.adccfg := by unfold State.tick; split_ifs <;> simp
@[simp] theorem State.tick_rbase : (s.tick).rbase = s.rbase := by unfold State.tick; split_ifs <;> simp
@[simp] theorem State.tick_rlen : (s.tick).rlen = s.rlen := by unfold State.tick; split_ifs <;> simp
@[simp] theorem State.tick_arr : (s.tick).arr = s.arr := by unfold State.tick; split_ifs <;> simp
@[simp] theorem State.tick_psc : (s.tick).psc = s.psc := by unfold State.tick; split_ifs <;> simp
@[simp] theorem State.tick_ccr : (s.tick).ccr = s.ccr := by unfold State.tick; split_ifs <;> simp
@[simp] theorem State.tick_ier : (s.tick).ier = s.ier := by unfold State.tick; split_ifs <;> simp
@[simp] theorem State.tick_dr : (s.tick).dr = s.dr := by unfold State.tick; split_ifs <;> simp
@[simp] theorem State.tick_filt : (s.tick).filt = s.filt := by unfold State.tick; split_ifs <;> simp
@[simp] theorem State.tick_ovrcnt : (s.tick).ovrcnt = s.ovrcnt := by unfold State.tick; split_ifs <;> simp
@[simp] theorem State.tick_unc : (s.tick).unc = s.unc := by unfold State.tick; split_ifs <;> simp
@[simp] theorem State.tick_dreq : (s.tick).dreq = s.dreq := by unfold State.tick; split_ifs <;> simp
@[simp] theorem State.tick_widx : (s.tick).widx = s.widx := by unfold State.tick; split_ifs <;> simp
@[simp] theorem State.tick_ustate : (s.tick).ustate = s.ustate := by unfold State.tick; split_ifs <;> simp
@[simp] theorem State.tick_ucur : (s.tick).ucur = s.ucur := by unfold State.tick; split_ifs <;> simp
@[simp] theorem State.tick_uacc : (s.tick).uacc = s.uacc := by unfold State.tick; split_ifs <;> simp
@[simp] theorem State.tick_ubase : (s.tick).ubase = s.ubase := by unfold State.tick; split_ifs <;> simp
@[simp] theorem State.tick_trigp : (s.tick).trigp = s.trigp := by unfold State.tick; split_ifs <;> simp
@[simp] theorem State.tick_tkind : (s.tick).tkind = s.tkind := by unfold State.tick; split_ifs <;> simp
@[simp] theorem State.tick_mem : (s.tick).mem = s.mem := by unfold State.tick; split_ifs <;> simp
@[simp] theorem State.tick_plat : (s.tick).plat = s.plat := by unfold State.tick; split_ifs <;> simp
@[simp] theorem State.tick_hostHalted : (s.tick).hostHalted = s.hostHalted := by unfold State.tick; split_ifs <;> simp
@[simp] theorem State.tick_inputs : (s.tick).inputs = s.inputs := by unfold State.tick; split_ifs <;> simp
@[simp] theorem State.tick_stepNo : (s.tick).stepNo = s.stepNo := by unfold State.tick; split_ifs <;> simp
@[simp] theorem State.tick_resp : (s.tick).resp = s.resp := by unfold State.tick; split_ifs <;> simp

end tick

section resetBlock
variable (s : State)

@[simp] theorem State.resetBlock_mem : s.resetBlock.mem = s.mem := rfl
@[simp] theorem State.resetBlock_plat : s.resetBlock.plat = s.plat := rfl
@[simp] theorem State.resetBlock_hostHalted : s.resetBlock.hostHalted = s.hostHalted := rfl
@[simp] theorem State.resetBlock_inputs : s.resetBlock.inputs = s.inputs := rfl
@[simp] theorem State.resetBlock_stepNo : s.resetBlock.stepNo = s.stepNo := rfl
@[simp] theorem State.resetBlock_resp : s.resetBlock.resp = s.resp := rfl

end resetBlock

end Sys2Proof.Machine
end

