-- ==== Sys2Proof/Laws/Memory.lean ====
section
/-! SUPPORT. The laws of system memory: the canonical form is kept, what was written is read back, and nothing else changes. -/

namespace Sys2Proof.Machine

/-! ### Bytes -/

@[simp] theorem Memory.get?_set_self (m : Memory) (a : Nat) (b : Byte) : (m.set a b).get? a = some b := by
  induction m with
  | nil => simp [Memory.set, Memory.get?]
  | cons c rest ih =>
    obtain ⟨k, v⟩ := c
    unfold Memory.set
    split_ifs with h1 h2
    · simp [Memory.get?]
    · simp [Memory.get?]
    · have : k ≠ a := fun h => h2 h.symm
      simp [Memory.get?, this, ih]

theorem Memory.get?_set_ne (m : Memory) {a c : Nat} (b : Byte) (h : c ≠ a) : (m.set a b).get? c = m.get? c := by
  induction m with
  | nil => simp [Memory.set, Memory.get?, h.symm]
  | cons d rest ih =>
    obtain ⟨k, v⟩ := d
    unfold Memory.set
    split_ifs with h1 h2
    · simp [Memory.get?, h.symm]
    · subst h2
      simp [Memory.get?, h.symm]
    · simp [Memory.get?, ih]

@[simp] theorem Memory.byteAt_set_self (m : Memory) (a : Nat) (b : Byte) : (m.set a b).byteAt a = b := by
  simp [Memory.byteAt]

theorem Memory.byteAt_set_ne (m : Memory) {a c : Nat} (b : Byte) (h : c ≠ a) : (m.set a b).byteAt c = m.byteAt c := by
  simp [Memory.byteAt, Memory.get?_set_ne m b h]

/-! ### Wide accesses -/

theorem Memory.byteAt_write_outside (n : Nat) : ∀ (m : Memory) (a v : Nat) {b : Nat}, b < a ∨ a + n ≤ b →
    (m.write a n v).byteAt b = m.byteAt b := by
  induction n with
  | zero => intro m a v b _; rfl
  | succ n ih =>
    intro m a v b h
    have hne : b ≠ a := by omega
    rw [Memory.write, ih (m.set a (BitVec.ofNat 8 v)) (a + 1) (v / 2 ^ 8) (b := b) (by omega), Memory.byteAt_set_ne m _ hne]

theorem Memory.byteAt_write_inside (n : Nat) : ∀ (m : Memory) (a v j : Nat), j < n →
    ((m.write a n v).byteAt (a + j)).toNat = v / 2 ^ (8 * j) % 2 ^ 8 := by
  induction n with
  | zero => intro m a v j h; omega
  | succ n ih =>
    intro m a v j h
    rw [Memory.write]
    cases j with
    | zero =>
      rw [Memory.byteAt_write_outside n _ _ _ (by omega)]
      simp
    | succ j =>
      have h1 := ih (m.set a (BitVec.ofNat 8 v)) (a + 1) (v / 2 ^ 8) j (by omega)
      have e : a + 1 + j = a + (j + 1) := by omega
      rw [e] at h1
      rw [h1, Nat.div_div_eq_div_mul, ← pow_add]
      congr 3
      omega

/-- A read depends only on the bytes it covers. -/
theorem Memory.read_congr (n : Nat) : ∀ (m m' : Memory) (a : Nat), (∀ j, j < n → m.byteAt (a + j) = m'.byteAt (a + j)) →
    m.read a n = m'.read a n := by
  induction n with
  | zero => intro m m' a _; rfl
  | succ n ih =>
    intro m m' a h
    have h0 := h 0 (by omega)
    simp only [Nat.add_zero] at h0
    rw [Memory.read, Memory.read, h0, ih m m' (a + 1) (fun j hj => by
      have := h (j + 1) (by omega)
      rwa [show a + (j + 1) = a + 1 + j by omega] at this)]

theorem Memory.read_lt (n : Nat) : ∀ (m : Memory) (a : Nat), m.read a n < 2 ^ (8 * n) := by
  induction n with
  | zero => intro m a; simp [Memory.read]
  | succ n ih =>
    intro m a
    have h1 := ih m (a + 1)
    have h2 := (m.byteAt a).isLt
    have e : 2 ^ (8 * (n + 1)) = 2 ^ 8 * 2 ^ (8 * n) := by rw [← pow_add]; congr 1; omega
    rw [Memory.read, e]
    omega

theorem Memory.read_two (m : Memory) (a : Nat) : m.read a 2 = (m.byteAt a).toNat + 2 ^ 8 * (m.byteAt (a + 1)).toNat := by
  simp [Memory.read]

/-! ### The canonical form -/

theorem Memory.risingFrom_set (m : Memory) : ∀ (least a : Nat) (b : Byte), Memory.risingFrom least m = true → least ≤ a →
    a < 2 ^ 32 → Memory.risingFrom least (m.set a b) = true := by
  induction m with
  | nil => intro least a b _ h1 h2; simp [Memory.set, Memory.risingFrom, h1]; omega
  | cons c rest ih =>
    intro least a b hw h1 h2
    obtain ⟨k, v⟩ := c
    simp only [Memory.risingFrom, Bool.and_eq_true, decide_eq_true_eq] at hw
    obtain ⟨⟨hk, hk2⟩, hr⟩ := hw
    unfold Memory.set
    split_ifs with h3 h4
    · simp only [Memory.risingFrom, Bool.and_eq_true, decide_eq_true_eq]
      exact ⟨⟨h1, h2⟩, ⟨by omega, hk2⟩, hr⟩
    · subst h4
      simp only [Memory.risingFrom, Bool.and_eq_true, decide_eq_true_eq]
      exact ⟨⟨h1, h2⟩, hr⟩
    · simp only [Memory.risingFrom, Bool.and_eq_true, decide_eq_true_eq]
      exact ⟨⟨hk, hk2⟩, ih (k + 1) a b hr (by omega) h2⟩

theorem Memory.wf_set (m : Memory) (a : Nat) (b : Byte) (h : m.wf = true) (ha : a < 2 ^ 32) : (m.set a b).wf = true :=
  Memory.risingFrom_set m 0 a b h (Nat.zero_le a) ha

/-- Every memory operation keeps the canonical form: a write inside the 32-bit space. -/
theorem Memory.wf_write (n : Nat) : ∀ (m : Memory) (a v : Nat), m.wf = true → a + n ≤ 2 ^ 32 → (m.write a n v).wf = true := by
  induction n with
  | zero => intro m a v h _; exact h
  | succ n ih =>
    intro m a v h ha
    exact ih _ (a + 1) _ (Memory.wf_set m a _ h (by omega)) (by omega)

theorem State.reset_memory_wf : State.reset.mem.wf = true := rfl

/-- An access that MemOK admits lies inside the 32-bit space. -/
theorem State.memOK_fits {s : State} {a n : Nat} (h : s.memOK a n = true) : a + n ≤ 2 ^ 32 := by
  simp only [State.memOK, List.any_eq_true] at h
  obtain ⟨w, _, hw⟩ := h
  simp only [windowAdmits, Bool.and_eq_true, decide_eq_true_eq] at hw
  have := w.hi.isLt
  omega

end Sys2Proof.Machine
end

