-- ==== Sys2Proof/Laws/Ops.lean ====
section
/-! SUPPORT. One lemma per shared operation that says what it can do, to be cited instead of unfolding it. -/

namespace Sys2Proof.Machine

/-! ### The mapper and the filter -/

theorem clampR_eq_min (m : Nat) : clampR m = min m 4095 := by
  unfold clampR
  split_ifs <;> omega

theorem clampR_le (m : Nat) : clampR m ≤ 4095 := by rw [clampR_eq_min]; omega

theorem dutyMap_le {f arr : Nat} (h : f ≤ 4095) : dutyMap f arr ≤ arr := by
  have h1 : f * (arr + 1) ≤ 4095 * (arr + 1) := Nat.mul_le_mul_right _ h
  have h2 : f * (arr + 1) < 2 ^ 12 * (arr + 1) := by
    omega
  have := Nat.div_lt_of_lt_mul h2
  unfold dutyMap
  omega

/-- What a pass writes: the clamped value and its duty, whole. -/
theorem State.commit_values (s : State) (m : Nat) :
    (s.commit m).filt.fval.toNat = clampR m ∧ (s.commit m).filt.duty.toNat = dutyMap (clampR m) s.arr.toNat ∧
    (s.commit m).ccr = (s.commit m).filt.duty := by
  have h1 := clampR_le m
  have h2 := dutyMap_le (arr := s.arr.toNat) h1
  have h3 := s.arr.isLt
  refine ⟨?_, ?_, rfl⟩
  · show (BitVec.ofNat 12 (clampR m)).toNat = _
    rw [BitVec.toNat_ofNat]
    omega
  · show (BitVec.ofNat 16 _).toNat = _
    rw [BitVec.toNat_ofNat]
    omega

/-! ### The transfer engine -/

/-- `legal()`, spelled out (spec/42_transfer_engine.md R293). -/
theorem State.legal_iff (s : State) : s.legal = true ↔
    1 ≤ s.rlen.toNat ∧ s.rlen.toNat ≤ 256 ∧ s.rbase.toNat % 2 = 0 ∧ s.plat.ramLo.toNat ≤ s.rbase.toNat ∧
      s.rbase.toNat + 2 * s.bufLen - 1 ≤ s.plat.ramHi.toNat := by
  have h : s.rbase.getLsbD 0 = decide (s.rbase.toNat % 2 = 1) := by
    rw [BitVec.getLsbD, Nat.testBit_zero]
  simp only [State.legal, h, Bool.and_eq_true, decide_eq_true_iff, Bool.not_eq_true', decide_eq_false_iff_not,
    and_assoc]
  have e : ¬ s.rbase.toNat % 2 = 1 ↔ s.rbase.toNat % 2 = 0 := by omega
  rw [e]

/-- What `dmaEnable()` can do (R292): refuse with CFGE, fail with TEIF, or enable. -/
theorem State.dmaEnable_cases (s : State) :
    (s.flag .teif = true ∧ s.dmaEnable = s.setFlag .cfge) ∨
    (s.flag .teif = false ∧ s.legal = false ∧ s.dmaEnable = s.setFlag .teif) ∨
    (s.flag .teif = false ∧ s.legal = true ∧
      s.dmaEnable = { s with ctrl := { s.ctrl with dmaen := true }, widx := 0, dreq := false }) := by
  unfold State.dmaEnable
  cases h1 : s.flag .teif <;> cases h2 : s.legal <;> simp

/-- What a CTRL write does to the transfer engine, by the old and the written bit (spec/40_bus_interface.md R208 step 4). -/
theorem State.writeDmaen_cases (s : State) (b : Bool) :
    (s.ctrl.dmaen = b ∧ s.writeDmaen b = s) ∨ (s.ctrl.dmaen = false ∧ b = true ∧ s.writeDmaen b = s.dmaEnable) ∨
    (s.ctrl.dmaen = true ∧ b = false ∧ s.writeDmaen b = s.dmaDisable) := by
  unfold State.writeDmaen
  cases h : s.ctrl.dmaen <;> cases b <;> simp

/-- The timer's enable bit after a CTRL write is the written one. -/
@[simp] theorem State.writeTimen_ctrl (s : State) (b : Bool) : (s.writeTimen b).ctrl = { s.ctrl with timen := b } := by
  unfold State.writeTimen
  rcases h : s.ctrl with ⟨a0, a1, a2, a3, a4, a5, a6, a7, a8⟩
  cases a4 <;> cases b <;> simp [h]

/-- What a CTRL write does to the timer, by the old and the written bit (R208 step 3). -/
theorem State.writeTimen_cases (s : State) (b : Bool) :
    (s.ctrl.timen = b ∧ s.writeTimen b = s) ∨ (s.ctrl.timen = false ∧ b = true ∧ s.writeTimen b = s.timEnable) ∨
    (s.ctrl.timen = true ∧ b = false ∧ s.writeTimen b = s.timDisable) := by
  unfold State.writeTimen
  cases h : s.ctrl.timen <;> cases b <;> simp

/-! The CTRL fields that the transfer engine's enable does not own. -/

@[simp] theorem State.writeDmaen_ctrl_aden (s : State) (b : Bool) : (s.writeDmaen b).ctrl.aden = s.ctrl.aden := by
  unfold State.writeDmaen State.dmaEnable; split_ifs <;> rfl
@[simp] theorem State.writeDmaen_ctrl_mode (s : State) (b : Bool) : (s.writeDmaen b).ctrl.mode = s.ctrl.mode := by
  unfold State.writeDmaen State.dmaEnable; split_ifs <;> rfl
@[simp] theorem State.writeDmaen_ctrl_pp (s : State) (b : Bool) : (s.writeDmaen b).ctrl.pp = s.ctrl.pp := by
  unfold State.writeDmaen State.dmaEnable; split_ifs <;> rfl
@[simp] theorem State.writeDmaen_ctrl_timen (s : State) (b : Bool) : (s.writeDmaen b).ctrl.timen = s.ctrl.timen := by
  unfold State.writeDmaen State.dmaEnable; split_ifs <;> rfl
@[simp] theorem State.writeDmaen_ctrl_cms (s : State) (b : Bool) : (s.writeDmaen b).ctrl.cms = s.ctrl.cms := by
  unfold State.writeDmaen State.dmaEnable; split_ifs <;> rfl
@[simp] theorem State.writeDmaen_ctrl_pol (s : State) (b : Bool) : (s.writeDmaen b).ctrl.pol = s.ctrl.pol := by
  unfold State.writeDmaen State.dmaEnable; split_ifs <;> rfl
@[simp] theorem State.writeDmaen_ctrl_oe (s : State) (b : Bool) : (s.writeDmaen b).ctrl.oe = s.ctrl.oe := by
  unfold State.writeDmaen State.dmaEnable; split_ifs <;> rfl
@[simp] theorem State.writeDmaen_ctrl_upden (s : State) (b : Bool) : (s.writeDmaen b).ctrl.upden = s.ctrl.upden := by
  unfold State.writeDmaen State.dmaEnable; split_ifs <;> rfl

/-- The two outcomes of a transfer (spec/42_transfer_engine.md R295, R301). -/
theorem State.transfer_cases (s : State) :
    (s.memOK (s.slotAddr s.widx) 2 = false ∧ s.transfer = s.teFault) ∨
    (s.memOK (s.slotAddr s.widx) 2 = true ∧
      s.transfer = (((s.consumeDR.checkTornRead s.widx).storeSlot).halfTransfer (s.widx + 1)).advanceSlot (s.widx + 1)) := by
  unfold State.transfer
  cases s.memOK (s.slotAddr s.widx) 2 <;> simp

/-- `base(k)` is `N` for RING1 and 0 otherwise (spec/45_update_unit.md R402). -/
theorem State.ringBase_eq (s : State) (k : TKind) : s.ringBase k = if k = .ring1 then s.rlen.toNat else 0 := by
  cases k <;> simp [State.ringBase]

/-- When a transfer into slot `i` tears a read (spec/42_transfer_engine.md R299). -/
theorem State.tornBy_iff (s : State) (i : Nat) : s.tornBy i = true ↔
    (s.ustate = .updating ∧ s.ubase + s.ucur ≤ i ∧ i < s.ubase + s.rlen.toNat) ∨
      (s.trigp = true ∧ s.tkind ≠ .direct ∧ s.ringBase s.tkind ≤ i ∧ i < s.ringBase s.tkind + s.rlen.toNat) := by
  simp [State.tornBy, and_assoc]

/-- The trigger of a half event. -/
theorem State.halfTransfer_trigger (s : State) (k : Nat) :
    (s.halfTransfer k).trigp = (s.trigp || (decide (k = s.halfPoint) && s.ctrl.pp && s.ctrl.upden)) ∧
    (s.halfTransfer k).tkind = if decide (k = s.halfPoint) && s.ctrl.pp && s.ctrl.upden then .ring0 else s.tkind := by
  unfold State.halfTransfer
  split_ifs with h <;> simp_all [Bool.or_comm]

/-- The trigger and the next slot of a full event. -/
theorem State.advanceSlot_trigger (s : State) (k : Nat) :
    (s.advanceSlot k).trigp = (s.trigp || (decide (k = s.bufLen) && s.ctrl.upden)) ∧
    (s.advanceSlot k).tkind =
      (if decide (k = s.bufLen) && s.ctrl.upden then (if s.ctrl.pp then .ring1 else .ring0) else s.tkind) ∧
    (s.advanceSlot k).widx = if k = s.bufLen then 0 else k := by
  unfold State.advanceSlot
  split_ifs with h <;> simp_all [Bool.or_comm]

/-! ### The update unit -/

/-- The two outcomes of a slot read (spec/45_update_unit.md R403, R407). -/
theorem State.readSlot_cases (s : State) :
    (s.memOK (s.slotAddr s.passSlot) 2 = false ∧ s.readSlot = { s.teFault with ustate := .idle }) ∨
    (s.memOK (s.slotAddr s.passSlot) 2 = true ∧
      s.readSlot = { s with uacc := BitVec.ofNat 32 (s.uacc.toNat + s.mem.read (s.slotAddr s.passSlot) 2), ucur := s.ucur + 1 }) := by
  unfold State.readSlot
  cases s.memOK (s.slotAddr s.passSlot) 2 <;> simp

/-! ### The timer -/

/-- What one count can do (spec/44_actuation_sink.md R363 to R365). -/
theorem State.count_cases (s : State) :
    (s.arr = 0 ∧ s.count = s) ∨ (s.arr ≠ 0 ∧ s.ctrl.cms = false ∧ s.count = s.countUp) ∨
    (s.arr ≠ 0 ∧ s.ctrl.cms = true ∧ s.count = s.countCenter) := by
  unfold State.count
  by_cases h : s.arr = 0
  · exact .inl ⟨h, if_pos h⟩
  · rw [if_neg h]
    cases hc : s.ctrl.cms
    · exact .inr (.inl ⟨h, rfl, if_neg (by simp)⟩)
    · exact .inr (.inr ⟨h, rfl, if_pos rfl⟩)

/-! ### The converter -/

theorem satSucc_toNat (v : Half) : (satSucc v).toNat = min (v.toNat + 1) 0xFFFF := by
  unfold satSucc
  rw [BitVec.toNat_ofNat]
  omega

end Sys2Proof.Machine
end

