-- ==== Sys2Proof/Laws/PerInstr.lean ====
section
/-! SUPPORT. The row of the opcode table each operation's word falls in, per constructor (spec/30_encoding.md R148). -/

namespace Sys2Proof.Laws.RowMatch

/-- The row of spec/opcode_table.json that an operation stands for applies to the label that spells it. -/
def Statement : Instr → Prop := fun i => i.tableRow.applies (encode i) = true

/-- A row applies where the word has the row's value in every bit of its mask. -/
theorem applies_of_bits (mask value cmd : BitVec 16) (d : Word)
    (h : ∀ k < 16, (cmd.getLsbD k && mask.getLsbD k) = value.getLsbD k) :
    (TableRow.bus mask value).applies (.bus cmd d) = true := by
  have : cmd &&& mask = value := by
    apply BitVec.eq_of_getLsbD_eq
    intro k hk
    rw [BitVec.getLsbD_and]
    exact h k hk
  simp [TableRow.applies, this]

theorem rdCtrl : Statement (.rdCtrl) := rfl
theorem wrCtrl (wdata : Word) : Statement (.wrCtrl wdata) := rfl
theorem rdAdccfg : Statement (.rdAdccfg) := rfl
theorem wrAdccfg (wdata : Word) : Statement (.wrAdccfg wdata) := rfl
theorem rdRbase : Statement (.rdRbase) := rfl
theorem wrRbase (wdata : Word) : Statement (.wrRbase wdata) := rfl
theorem rdRlen : Statement (.rdRlen) := rfl
theorem wrRlen (wdata : Word) : Statement (.wrRlen wdata) := rfl
theorem rdArr : Statement (.rdArr) := rfl
theorem wrArr (wdata : Word) : Statement (.wrArr wdata) := rfl
theorem rdPsc : Statement (.rdPsc) := rfl
theorem wrPsc (wdata : Word) : Statement (.wrPsc wdata) := rfl
theorem rdCcr : Statement (.rdCcr) := rfl
theorem wrCcr (wdata : Word) : Statement (.wrCcr wdata) := rfl
theorem rdCnt : Statement (.rdCnt) := rfl
theorem wrCnt (wdata : Word) : Statement (.wrCnt wdata) := rfl
theorem rdSr : Statement (.rdSr) := rfl
theorem wrSr (wdata : Word) : Statement (.wrSr wdata) := rfl
theorem rdIer : Statement (.rdIer) := rfl
theorem wrIer (wdata : Word) : Statement (.wrIer wdata) := rfl
theorem rdDr : Statement (.rdDr) := rfl
theorem wrDr (wdata : Word) : Statement (.wrDr wdata) := rfl
theorem rdStat : Statement (.rdStat) := rfl
theorem wrStat (wdata : Word) : Statement (.wrStat wdata) := rfl
theorem rdFilt : Statement (.rdFilt) := rfl
theorem wrFilt (wdata : Word) : Statement (.wrFilt wdata) := rfl
theorem rdOvrcnt : Statement (.rdOvrcnt) := rfl
theorem wrOvrcnt (wdata : Word) : Statement (.wrOvrcnt wdata) := rfl
theorem rdRsv038 (k : BitVec 1) : Statement (.rdRsv038 k) := by
  have : ∀ k : BitVec 1, (TableRow.applies (Instr.rdRsv038 k).tableRow (encode (.rdRsv038 k))) = true := by decide
  exact this k
theorem rdRsv040 (k : BitVec 4) : Statement (.rdRsv040 k) := by
  have : ∀ k : BitVec 4, (TableRow.applies (Instr.rdRsv040 k).tableRow (encode (.rdRsv040 k))) = true := by decide
  exact this k
theorem rdRsv080 (k : BitVec 5) : Statement (.rdRsv080 k) := by
  have : ∀ k : BitVec 5, (TableRow.applies (Instr.rdRsv080 k).tableRow (encode (.rdRsv080 k))) = true := by decide
  exact this k
theorem rdRsv100 (k : BitVec 6) : Statement (.rdRsv100 k) := by
  have : ∀ k : BitVec 6, (TableRow.applies (Instr.rdRsv100 k).tableRow (encode (.rdRsv100 k))) = true := by decide
  exact this k
theorem rdRsv200 (k : BitVec 7) : Statement (.rdRsv200 k) := by
  have : ∀ k : BitVec 7, (TableRow.applies (Instr.rdRsv200 k).tableRow (encode (.rdRsv200 k))) = true := by decide
  exact this k
theorem wrRsv038 (k : BitVec 1) (wdata : Word) : Statement (.wrRsv038 k wdata) := by
  have : ∀ k : BitVec 1, (TableRow.applies (Instr.wrRsv038 k 0).tableRow (encode (.wrRsv038 k 0))) = true := by decide
  exact this k
theorem wrRsv040 (k : BitVec 4) (wdata : Word) : Statement (.wrRsv040 k wdata) := by
  have : ∀ k : BitVec 4, (TableRow.applies (Instr.wrRsv040 k 0).tableRow (encode (.wrRsv040 k 0))) = true := by decide
  exact this k
theorem wrRsv080 (k : BitVec 5) (wdata : Word) : Statement (.wrRsv080 k wdata) := by
  have : ∀ k : BitVec 5, (TableRow.applies (Instr.wrRsv080 k 0).tableRow (encode (.wrRsv080 k 0))) = true := by decide
  exact this k
theorem wrRsv100 (k : BitVec 6) (wdata : Word) : Statement (.wrRsv100 k wdata) := by
  have : ∀ k : BitVec 6, (TableRow.applies (Instr.wrRsv100 k 0).tableRow (encode (.wrRsv100 k 0))) = true := by decide
  exact this k
theorem wrRsv200 (k : BitVec 7) (wdata : Word) : Statement (.wrRsv200 k wdata) := by
  have : ∀ k : BitVec 7, (TableRow.applies (Instr.wrRsv200 k 0).tableRow (encode (.wrRsv200 k 0))) = true := by decide
  exact this k
theorem subWord (w half : Bool) (off : BitVec 10) (wdata : Word) : Statement (.subWord w half off wdata) := by
  refine applies_of_bits _ _ _ _ fun k hk => ?_
  rw [commandWord_bit]
  have h := append_bit 0#1 (BitVec.ofBool half) (t := 2) (c := 0#1 ++ BitVec.ofBool half) rfl rfl
  simp only [h]
  interval_cases k <;> simp
theorem oddOffset (w : Bool) (off : BitVec 9) (wdata : Word) : Statement (.oddOffset w off wdata) := by
  refine applies_of_bits _ _ _ _ fun k hk => ?_
  rw [commandWord_bit]
  have h := append_bit off 1#1 (t := 10) (c := off ++ 1#1) rfl rfl
  simp only [h]
  interval_cases k <;> simp
theorem twoModFour (w : Bool) (off : BitVec 8) (wdata : Word) : Statement (.twoModFour w off wdata) := by
  refine applies_of_bits _ _ _ _ fun k hk => ?_
  rw [commandWord_bit]
  have h := append_bit off 0b10#2 (t := 10) (c := off ++ 0b10#2) rfl rfl
  simp only [h]
  interval_cases k <;> simp
theorem refusedZ1xx (rest : BitVec 15) : Statement (.refusedZ1xx rest) := by
  refine applies_of_bits _ _ _ _ fun k hk => ?_
  rw [append_bit 1#1 rest (t := 16) (c := 1#1 ++ rest) rfl rfl]
  interval_cases k <;> simp
theorem refusedZ01x (rest : BitVec 14) : Statement (.refusedZ01x rest) := by
  refine applies_of_bits _ _ _ _ fun k hk => ?_
  rw [append_bit 0b01#2 rest (t := 16) (c := 0b01#2 ++ rest) rfl rfl]
  interval_cases k <;> simp
theorem refusedZ001 (rest : BitVec 13) : Statement (.refusedZ001 rest) := by
  refine applies_of_bits _ _ _ _ fun k hk => ?_
  rw [append_bit 0b001#3 rest (t := 16) (c := 0b001#3 ++ rest) rfl rfl]
  interval_cases k <;> simp
theorem refusedSz11 (w : Bool) (off : BitVec 10) : Statement (.refusedSz11 w off) := by
  refine applies_of_bits _ _ _ _ fun k hk => ?_
  rw [commandWord_bit]
  interval_cases k <;> simp
theorem adcEoc (x : Nat) : Statement (.adcEoc x) := rfl
theorem dmaXfer : Statement (.dmaXfer) := rfl
theorem updStart : Statement (.updStart) := rfl
theorem updDirect : Statement (.updDirect) := rfl
theorem updRead : Statement (.updRead) := rfl
theorem updFinish : Statement (.updFinish) := rfl
theorem timTick : Statement (.timTick) := rfl
theorem reset : Statement (.reset) := rfl
theorem hostMemRd (a : Word) (n : Nat) : Statement (.hostMemRd a n) := rfl
theorem hostMemWr (a : Word) (n : Nat) (v : Word) : Statement (.hostMemWr a n v) := rfl
theorem refusedEvt0 : Statement (.refusedEvt0) := rfl
theorem refusedEvtB : Statement (.refusedEvtB) := rfl
theorem refusedEvtCF (low : BitVec 2) : Statement (.refusedEvtCF low) := by
  have : ∀ low : BitVec 2, (TableRow.applies (Instr.refusedEvtCF low).tableRow (encode (.refusedEvtCF low))) = true := by decide
  exact this low

end Sys2Proof.Laws.RowMatch
end

