-- ==== Sys2Proof/Machine/Script.lean ====
section
/-! DEFINITION. Bus scripts and the pseudo-operations (spec/30_encoding.md R152, R153): what each line spells, as step labels. -/

namespace Sys2Proof.Machine

/-- The registers by name (spec/10_state.md R32). -/
inductive Reg where
  | ctrl | adccfg | rbase | rlen | arr | psc | ccr | cnt | sr | ier | dr | stat | filt | ovrcnt
  deriving DecidableEq, Repr

/-- The offset of a register (R32). -/
def Reg.offset : Reg → BitVec 10
  | .ctrl => 0x000
  | .adccfg => 0x004
  | .rbase => 0x008
  | .rlen => 0x00C
  | .arr => 0x010
  | .psc => 0x014
  | .ccr => 0x018
  | .cnt => 0x01C
  | .sr => 0x020
  | .ier => 0x024
  | .dr => 0x028
  | .stat => 0x02C
  | .filt => 0x030
  | .ovrcnt => 0x034

/-- The internal events with no operand, by name (spec/30_encoding.md R143). -/
inductive PlainEvent where
  | dmaXfer | updStart | updDirect | updRead | updFinish | timTick | reset
  deriving DecidableEq, Repr

/-- The code of an internal event (R143). -/
def PlainEvent.code : PlainEvent → BitVec 4
  | .dmaXfer => 0x2
  | .updStart => 0x3
  | .updDirect => 0x4
  | .updRead => 0x5
  | .updFinish => 0x6
  | .timTick => 0x7
  | .reset => 0x8

/-- One line of a bus script (R152), the pseudo-operations among them (R153). -/
inductive ScriptLine where
  /-- `RD <REG>`. -/
  | rd (r : Reg)
  /-- `WR <REG>, <value>`. -/
  | wr (r : Reg) (v : Word)
  /-- `RD.B <OFF>`. -/
  | rdB (off : BitVec 10)
  /-- `RD.H <OFF>`. -/
  | rdH (off : BitVec 10)
  /-- `WR.B <OFF>, v`. -/
  | wrB (off : BitVec 10) (v : Word)
  /-- `WR.H <OFF>, v`. -/
  | wrH (off : BitVec 10) (v : Word)
  /-- `RD @<OFF>`. -/
  | rdAt (off : BitVec 10)
  /-- `WR @<OFF>, v`. -/
  | wrAt (off : BitVec 10) (v : Word)
  /-- `MRD.<n> <addr>`. -/
  | mrd (n : Nat) (a : Word)
  /-- `MWR.<n> <addr>, <v>`. -/
  | mwr (n : Nat) (a v : Word)
  /-- `EVT ADC_EOC s`. -/
  | adcEoc (x : Nat)
  /-- `EVT <NAME>`. -/
  | evt (e : PlainEvent)
  /-- `CLRF <mask>`. -/
  | clrf (mask : Word)
  /-- `CLROVR`. -/
  | clrovr
  /-- `SETCCR <v>`. -/
  | setccr (v : Word)
  /-- `<line> x<k>`. -/
  | times (line : ScriptLine) (k : Nat)
  deriving DecidableEq, Repr

/-- The steps a line spells; every line but a repeated one is one step (R152, R153). -/
def ScriptLine.labels : ScriptLine → List Label
  | .rd r => [readLabel r.offset]
  | .wr r v => [writeLabel r.offset v]
  | .rdB off => [.bus (commandWord false 0b00#2 off) 0]
  | .rdH off => [.bus (commandWord false 0b01#2 off) 0]
  | .wrB off v => [.bus (commandWord true 0b00#2 off) v]
  | .wrH off v => [.bus (commandWord true 0b01#2 off) v]
  | .rdAt off => [readLabel off]
  | .wrAt off v => [writeLabel off v]
  | .mrd n a => [.evt 0x9 0 a n 0]
  | .mwr n a v => [.evt 0xA 0 a n v]
  | .adcEoc x => [.evt 0x1 x 0 0 0]
  | .evt e => [plainEvent e.code]
  | .clrf mask => [writeLabel Reg.sr.offset mask]
  | .clrovr => [writeLabel Reg.ovrcnt.offset 0]
  | .setccr v => [writeLabel Reg.ccr.offset v]
  | .times line k => (List.replicate k line.labels).flatten

/-- A script queued behind the steps already to come, the host not halted (assumption 1). -/
def State.withScript (s : State) (lines : List ScriptLine) : State :=
  { s with inputs := s.inputs ++ (lines.flatMap ScriptLine.labels).map (fun l => { halted := false, label := l }) }

end Sys2Proof.Machine
end

