-- ==== Sys2Proof/Tests/Slice0.lean ====
section
/-! SUPPORT. Tests of one step each, expected results from spec/95_test_vectors.md (the vector's name in each docstring) or worked by hand
from the rule named; words written out from spec/30_encoding.md; ill-formed terms the checks refuse; and, for every statement with
hypotheses, a state and operands that meet them, clause by clause. -/

namespace Sys2Proof.Tests

open Sys2Proof.Machine

/-! ### Small states -/

/-- The example platform of 95_test_vectors.md section 0. -/
def plat : Platform where
  lastChannel := 15
  smpCycles := Vector.replicate 8 3
  basePage := 0x100000
  ramLo := 0x20000000
  ramHi := 0x2001FFFF
  windows := [{ lo := 0x20000000, hi := 0x2001FFFF, bytes := true, halves := true, words := true }]
  irqId := 1
  dbgFreeze := false
  tConversion := 0
  tTransfer := 0
  tUpdate := 0
  tTick := 0

/-- Reset on that platform, with CTRL holding the fields of a word. -/
def withCtrl (w : Word) : State := { State.reset with plat := plat, ctrl := Ctrl.ofWord w }

/-- Reset on that platform. -/
def s0 : State := withCtrl 0x00A

/-- A single ring of `n` slots at 0x20000100, the CTRL word as given. -/
def ring (w : Word) (n : BitVec 9) : State := { withCtrl w with rbase := 0x20000100, rlen := n }

/-- The state after an operation; the same state where it stops. -/
def after (i : Instr) (s : State) : State :=
  match exec i s with
  | .next t => t
  | .fault _ => s
  | .refused _ => s

/-- An operation completes. -/
def completes (i : Instr) (s : State) : Bool :=
  match exec i s with
  | .next _ => true
  | .fault _ => false
  | .refused _ => false

/-! ### Ill-formed terms are refused -/

theorem test_wf_sample : Instr.wellFormed (.adcEoc 4096) = false := by decide
theorem test_wf_read_size : Instr.wellFormed (.hostMemRd 0x20000000 3) = false := by decide
theorem test_wf_write_size : Instr.wellFormed (.hostMemWr 0x20000000 0 7) = false := by decide
theorem test_wf_sub_word_read : Instr.wellFormed (.subWord false true 0x028 1) = false := by decide
theorem test_wf_odd_read : Instr.wellFormed (.oddOffset false 0 1) = false := by decide
theorem test_wf_two_mod_four_read : Instr.wellFormed (.twoModFour false 0 1) = false := by decide

/-! ### Words written out from the encodings (30_encoding.md R141, R143, R147, R149, R150: Z, W, SZ, OFF from bit 15 down) -/

theorem test_decode_config_registers :
    decode (.bus 0b0000100000000000 9) = .ok .rdCtrl ∧ decode (.bus 0b0001100000000000 9) = .ok (.wrCtrl 9) ∧
    decode (.bus 0b0000100000000100 9) = .ok .rdAdccfg ∧ decode (.bus 0b0001100000000100 9) = .ok (.wrAdccfg 9) ∧
    decode (.bus 0b0000100000001000 9) = .ok .rdRbase ∧ decode (.bus 0b0001100000001000 9) = .ok (.wrRbase 9) ∧
    decode (.bus 0b0000100000001100 9) = .ok .rdRlen ∧ decode (.bus 0b0001100000001100 9) = .ok (.wrRlen 9) ∧
    decode (.bus 0b0000100000010000 9) = .ok .rdArr ∧ decode (.bus 0b0001100000010000 9) = .ok (.wrArr 9) ∧
    decode (.bus 0b0000100000010100 9) = .ok .rdPsc ∧ decode (.bus 0b0001100000010100 9) = .ok (.wrPsc 9) := by decide

theorem test_decode_status_registers :
    decode (.bus 0b0000100000011000 9) = .ok .rdCcr ∧ decode (.bus 0b0001100000011000 9) = .ok (.wrCcr 9) ∧
    decode (.bus 0b0000100000011100 9) = .ok .rdCnt ∧ decode (.bus 0b0001100000011100 9) = .ok (.wrCnt 9) ∧
    decode (.bus 0b0000100000100000 9) = .ok .rdSr ∧ decode (.bus 0b0001100000100000 9) = .ok (.wrSr 9) ∧
    decode (.bus 0b0000100000100100 9) = .ok .rdIer ∧ decode (.bus 0b0001100000100100 9) = .ok (.wrIer 9) ∧
    decode (.bus 0b0000100000101000 9) = .ok .rdDr ∧ decode (.bus 0b0001100000101000 9) = .ok (.wrDr 9) ∧
    decode (.bus 0b0000100000101100 9) = .ok .rdStat ∧ decode (.bus 0b0001100000101100 9) = .ok (.wrStat 9) ∧
    decode (.bus 0b0000100000110000 9) = .ok .rdFilt ∧ decode (.bus 0b0001100000110000 9) = .ok (.wrFilt 9) ∧
    decode (.bus 0b0000100000110100 9) = .ok .rdOvrcnt ∧ decode (.bus 0b0001100000110100 9) = .ok (.wrOvrcnt 9) := by decide

/-- Offsets 0x03C, 0x07C, 0x084, 0x1FC and 0x3FC, the free bits of each row at more than one value. -/
theorem test_decode_reserved_offsets :
    decode (.bus 0b0000100000111100 9) = .ok (.rdRsv038 1) ∧ decode (.bus 0b0001100000111100 9) = .ok (.wrRsv038 1 9) ∧
    decode (.bus 0b0000100001111100 9) = .ok (.rdRsv040 0xF) ∧ decode (.bus 0b0001100001111100 9) = .ok (.wrRsv040 0xF 9) ∧
    decode (.bus 0b0000100010000100 9) = .ok (.rdRsv080 1) ∧ decode (.bus 0b0001100010000100 9) = .ok (.wrRsv080 1 9) ∧
    decode (.bus 0b0000100111111100 9) = .ok (.rdRsv100 0x3F) ∧ decode (.bus 0b0001100111111100 9) = .ok (.wrRsv100 0x3F 9) ∧
    decode (.bus 0b0000101111111100 9) = .ok (.rdRsv200 0x7F) ∧ decode (.bus 0b0001101111111100 9) = .ok (.wrRsv200 0x7F 9) := by
  decide

/-- `RD.H 0x028`, `WR.B 0x002`, `RD @0x001`, `WR @0x3FE` and the refused forms (V-BUS-13, V-BUS-14). -/
theorem test_decode_malformed_and_refused :
    decode (.bus 0b0000010000101000 9) = .ok (.subWord false true 0x028 0) ∧
    decode (.bus 0b0001000000000010 9) = .ok (.subWord true false 0x002 9) ∧
    decode (.bus 0b0000100000000001 9) = .ok (.oddOffset false 0 0) ∧
    decode (.bus 0b0001101111111110 9) = .ok (.twoModFour true 0xFF 9) ∧
    decode (.bus 0b1000000000000001 9) = .ok (.refusedZ1xx 1) ∧
    decode (.bus 0b0100000000000001 9) = .ok (.refusedZ01x 1) ∧
    decode (.bus 0b0010100000000000 9) = .ok (.refusedZ001 0x800) ∧
    decode (.bus 0b0000110000000000 9) = .ok (.refusedSz11 false 0) := by decide

theorem test_decode_events :
    decode (.evt 0b0001 7 0 0 0) = .ok (.adcEoc 7) ∧ decode (.evt 0b0010 0 0 0 0) = .ok .dmaXfer ∧
    decode (.evt 0b0011 0 0 0 0) = .ok .updStart ∧ decode (.evt 0b0100 0 0 0 0) = .ok .updDirect ∧
    decode (.evt 0b0101 0 0 0 0) = .ok .updRead ∧ decode (.evt 0b0110 0 0 0 0) = .ok .updFinish ∧
    decode (.evt 0b0111 0 0 0 0) = .ok .timTick ∧ decode (.evt 0b1000 0 0 0 0) = .ok .reset ∧
    decode (.evt 0b1001 0 0x20000100 4 0) = .ok (.hostMemRd 0x20000100 4) ∧
    decode (.evt 0b1010 0 0x20000100 2 0xFFFF) = .ok (.hostMemWr 0x20000100 2 0xFFFF) ∧
    decode (.evt 0b0000 0 0 0 0) = .ok .refusedEvt0 ∧ decode (.evt 0b1011 0 0 0 0) = .ok .refusedEvtB ∧
    decode (.evt 0b1101 0 0 0 0) = .ok (.refusedEvtCF 1) := by decide

/-- The labels a table word of bits spells: `WR CTRL, 0x197` with its data above the command word, and `ADC_EOC 5`. -/
theorem test_table_words :
    decodeTableWord 16 0x0820 = some .rdSr ∧ decodeTableWord 48 0x01971800 = some (.wrCtrl 0x197) ∧
    decodeTableWord 8 0x2 = some .dmaXfer ∧ decodeTableWord 24 0x501 = some (.adcEoc 5) := by decide

/-- R153: `CLRF 0x22C`, `CLROVR` and `SETCCR 5` are one write each (program P1: `0x1820 / 0x0000022C`). -/
theorem test_pseudo_operations :
    (ScriptLine.clrf 0x22C).labels = [.bus 0x1820 0x22C] ∧ ScriptLine.clrovr.labels = [.bus 0x1834 0] ∧
    (ScriptLine.setccr 5).labels = [.bus 0x1818 5] ∧ (ScriptLine.times (.evt .timTick) 2).labels = [.evt 7 0 0 0 0, .evt 7 0 0 0 0] := by
  decide

/-! ### Register reads and writes (95_test_vectors.md 2.1) -/

/-- V-BUS-1. -/
theorem test_rd_ctrl : (after .rdCtrl s0).resp = .okayData 0x0000000A := by decide
/-- V-BUS-2. -/
theorem test_rd_adccfg : (after .rdAdccfg s0).resp = .okayData 0x00000700 := by decide
/-- Program P4: `RD RBASE` gives 0x20000100. -/
theorem test_rd_rbase : (after .rdRbase (ring 0x006 8)).resp = .okayData 0x20000100 := by decide
/-- V-BUS-3. -/
theorem test_rd_rlen : (after .rdRlen s0).resp = .okayData 0x00000008 := by decide
/-- V-BUS-4. -/
theorem test_rd_arr : (after .rdArr s0).resp = .okayData 0x000003E7 := by decide
/-- R217. -/
theorem test_rd_psc : (after .rdPsc { s0 with psc := 71 }).resp = .okayData 71 := by decide
/-- Program P1: `RD CCR` gives 490. -/
theorem test_rd_ccr : (after .rdCcr { s0 with ccr := 490, ccra := 1 }).resp = .okayData 0x000001EA := by decide
/-- Program P1: `RD CNT` gives 999. -/
theorem test_rd_cnt : (after .rdCnt { s0 with cnt := 999 }).resp = .okayData 0x000003E7 := by decide
/-- Program P1. -/
theorem test_rd_sr : (after .rdSr { s0 with sr := 0x02C }).resp = .okayData 0x0000002C := by decide
/-- R225. -/
theorem test_rd_ier : (after .rdIer { s0 with ier := 0x424 }).resp = .okayData 0x00000424 := by decide
/-- V-BUS-30. -/
theorem test_rd_dr : (after .rdDr { s0 with dr := 5, unc := true, sr := 1 }).resp = .okayData 5 ∧
    (after .rdDr { s0 with dr := 5, unc := true, sr := 1 }).unc = false ∧
    (after .rdDr { s0 with dr := 5, unc := true, sr := 1 }).sr = 0 := by decide
/-- V-BUS-33. -/
theorem test_rd_stat : (after .rdStat { s0 with widx := 4, trigp := true }).resp = .okayData 0x00020004 := by decide
/-- Program P2: UHALF; V-ADC-10: TRIGP and UNC. -/
theorem test_rd_stat_bits : (after .rdStat { s0 with ubase := 4 }).resp = .okayData 0x00200000 ∧
    (after .rdStat { s0 with trigp := true, unc := true }).resp = .okayData 0x000A0000 := by decide
/-- V-BUS-36. -/
theorem test_rd_filt : (after .rdFilt { s0 with filt := { fval := 2011, duty := 490 } }).resp = .okayData 0x01EA07DB := by decide
/-- Program P3. -/
theorem test_rd_ovrcnt : (after .rdOvrcnt { s0 with ovrcnt := 1 }).resp = .okayData 1 := by decide

/-- V-BUS-15: every field 0. -/
theorem test_wr_ctrl_drops_high_bits : (after (.wrCtrl 0xFFFFFE00) s0).ctrlWord = 0 := by decide
/-- V-BUS-19: MODE is locked while the converter stays on. -/
theorem test_wr_ctrl_mode_lock : (after (.wrCtrl 1) (withCtrl 0x003)).ctrlWord = 0x003 ∧ (after (.wrCtrl 1) (withCtrl 0x003)).sr = 0x100 := by
  decide
/-- V-BUS-16. -/
theorem test_wr_adccfg : (after (.wrAdccfg 0x503) s0).adccfgWord = 0x503 := by decide
/-- V-BUS-17. -/
theorem test_wr_adccfg_locked : (after (.wrAdccfg 0x503) (withCtrl 0x003)).adccfgWord = 0x700 ∧
    (after (.wrAdccfg 0x503) (withCtrl 0x003)).sr = 0x100 := by decide
/-- Program P4: an odd base is stored. -/
theorem test_wr_rbase : (after (.wrRbase 0x20000101) s0).rbase = 0x20000101 := by decide
/-- V-BUS-34: the pending pass holds the lock. -/
theorem test_wr_rbase_locked : (after (.wrRbase 0x20000400) { ring 0x002 8 with trigp := true }).rbase = 0x20000100 ∧
    (after (.wrRbase 0x20000400) { ring 0x002 8 with trigp := true }).sr = 0x100 := by decide
/-- V-BUS-23. -/
theorem test_wr_rlen : (after (.wrRlen 0x208) s0).rlen = 8 := by decide
/-- V-BUS-21. -/
theorem test_wr_arr_locked : (after (.wrArr 5) { withCtrl 0x092 with arr := 0 }).arr = 0 ∧
    (after (.wrArr 5) { withCtrl 0x092 with arr := 0 }).sr = 0x100 := by decide
/-- V-BUS-22. -/
theorem test_wr_psc : (after (.wrPsc 71) s0).psc = 71 := by decide
/-- V-BUS-24: the preload only. -/
theorem test_wr_ccr : (after (.wrCcr 250) s0).ccr = 250 ∧ (after (.wrCcr 250) s0).ccra = 0 := by decide
/-- V-BUS-25. -/
theorem test_wr_ccr_owned : (after (.wrCcr 5) (withCtrl 0x107)).ccr = 0 ∧ (after (.wrCcr 5) (withCtrl 0x107)).sr = 0x100 := by decide
/-- V-BUS-26. -/
theorem test_wr_cnt : after (.wrCnt 7) s0 = { s0 with resp := .okay } := by rfl
/-- V-BUS-27. -/
theorem test_wr_sr : (after (.wrSr 8) { s0 with sr := 0x02C }).sr = 0x024 := by decide
/-- V-BUS-29: clearing EOC consumes nothing. -/
theorem test_wr_sr_keeps_unc : (after (.wrSr 1) { s0 with sr := 1, unc := true }).sr = 0 ∧
    (after (.wrSr 1) { s0 with sr := 1, unc := true }).unc = true := by decide
/-- R226. -/
theorem test_wr_ier : (after (.wrIer 0xFFFFFFFF) s0).ier = 0x7FF := by decide
/-- R228, R230, R232. -/
theorem test_wr_read_only : after (.wrDr 7) s0 = { s0 with resp := .okay } ∧ after (.wrStat 7) s0 = { s0 with resp := .okay } ∧
    after (.wrFilt 7) s0 = { s0 with resp := .okay } := ⟨rfl, rfl, rfl⟩
/-- V-BUS-32. -/
theorem test_wr_ovrcnt : (after (.wrOvrcnt 0x1234) { s0 with ovrcnt := 3, sr := 2 }).ovrcnt = 0 ∧
    (after (.wrOvrcnt 0x1234) { s0 with ovrcnt := 3, sr := 2 }).sr = 2 := by decide

/-- V-BUS-10, V-BUS-11, V-BUS-12. -/
theorem test_reserved_offsets : (after (.rdRsv100 0) s0).resp = .okayData 0 ∧ (after (.rdRsv200 0x7F) s0).resp = .okayData 0 ∧
    (after (.wrRsv038 0 5) s0).resp = .okay ∧ (after (.rdRsv038 0) s0).resp = .okayData 0 := by decide
/-- V-BUS-5 to V-BUS-9. -/
theorem test_bus_errors : (after (.subWord false true 0x028 0) s0).resp = .busError ∧
    (after (.subWord true false 0x002 0xFF) s0).resp = .busError ∧ (after (.subWord true false 0x002 0xFF) s0).ctrlWord = 0xA ∧
    (after (.twoModFour false 0 0) s0).resp = .busError ∧ (after (.oddOffset false 0 0) s0).resp = .busError := by decide

/-! ### The transfer engine's enable (95_test_vectors.md 2.3) -/

/-- V-DMA-8 and V-DMA-9: an odd base fails with TEIF; a second try is refused with CFGE. -/
theorem test_enable_fails : (after (.wrCtrl 6) { withCtrl 0x002 with rbase := 0x20000101 }).sr = 0x010 ∧
    (after (.wrCtrl 6) { withCtrl 0x002 with rbase := 0x20000101 }).ctrlWord = 0x002 ∧
    (after (.wrCtrl 6) { withCtrl 0x002 with rbase := 0x20000101, sr := 0x010 }).sr = 0x110 := by decide
/-- V-DMA-10 to V-DMA-15: the edges of a legal buffer. -/
theorem test_enable_edges : (after (.wrCtrl 6) (ring 0x002 0)).sr = 0x010 ∧ (after (.wrCtrl 6) (ring 0x002 257)).sr = 0x010 ∧
    (after (.wrCtrl 6) (ring 0x002 256)).ctrlWord = 0x006 ∧
    (after (.wrCtrl 6) { withCtrl 0x002 with rbase := 0x2001FFF0 }).ctrlWord = 0x006 ∧
    (after (.wrCtrl 0xE) { withCtrl 0x002 with rbase := 0x2001FFF0 }).sr = 0x010 ∧
    (after (.wrCtrl 6) { withCtrl 0x002 with rbase := 0x1FFFFFFE }).sr = 0x010 := by decide

/-! ### Events -/

/-- V-ADC-1. -/
theorem test_adc_eoc : (after (.adcEoc 1000) (withCtrl 1)).dr = 1000 ∧ (after (.adcEoc 1000) (withCtrl 1)).unc = true ∧
    (after (.adcEoc 1000) (withCtrl 1)).sr = 0x001 := by decide
/-- V-ADC-2 and V-ADC-6: an overrun, and the count at its limit. -/
theorem test_adc_overrun : (after (.adcEoc 1001) { withCtrl 1 with unc := true, sr := 1, dr := 1000 }).sr = 0x003 ∧
    (after (.adcEoc 2) { withCtrl 1 with unc := true, ovrcnt := 0xFFFE }).ovrcnt = 0xFFFF ∧
    (after (.adcEoc 2) { withCtrl 1 with unc := true, ovrcnt := 0xFFFF }).ovrcnt = 0xFFFF := by decide

/-- A ring of eight, about to take sample 3000 into slot 3 (V-DMA-1). -/
def xfer : State := { ring 0x006 8 with widx := 3, dr := 3000, dreq := true, unc := true }

/-- V-DMA-1: halfword 0x0BB8 at 0x20000106, HTIF, WIDX 4. -/
theorem test_dma_xfer : (after .dmaXfer xfer).mem = [(0x20000106, 0xB8), (0x20000107, 0x0B)] ∧ (after .dmaXfer xfer).sr = 0x004 ∧
    (after .dmaXfer xfer).widx = 4 := by decide
/-- V-DMA-4: UOVF and RWOVF beside HTIF and TCIF. -/
theorem test_dma_xfer_torn :
    (after .dmaXfer { ring 0x107 1 with dr := 8, dreq := true, trigp := true, sr := 0x00C }).sr = 0x44C := by decide
/-- V-UPD-1. -/
theorem test_upd_start : (after .updStart { ring 0x10F 4 with trigp := true, tkind := .ring1 }).ubase = 4 ∧
    (after .updStart { ring 0x10F 4 with trigp := true, tkind := .ring1 }).ustate = .updating ∧
    (after .updStart { ring 0x10F 4 with trigp := true, tkind := .ring1 }).trigp = false := by decide
/-- V-UPD-2: not enabled. -/
theorem test_upd_start_disabled : after .updStart { ring 0x00F 4 with trigp := true } = { ring 0x00F 4 with trigp := true } := by rfl

/-- A pass over a ring of three whose slot 2 holds 0x07D0 (V-UPD-3). -/
def pass : State := { ring 0x107 3 with ustate := .updating, ucur := 2, uacc := 10, mem := [(0x20000104, 0xD0), (0x20000105, 0x07)] }

/-- V-UPD-3. -/
theorem test_upd_read : (after .updRead pass).uacc = 2010 ∧ (after .updRead pass).ucur = 3 := by decide
/-- V-UPD-10. -/
theorem test_upd_read_error : (after .updRead { pass with rbase := 0x30000000 }).sr = 0x010 ∧
    (after .updRead { pass with rbase := 0x30000000 }).ctrl.dmaen = false ∧
    (after .updRead { pass with rbase := 0x30000000 }).ustate = .idle := by decide
/-- V-UPD-5. -/
theorem test_upd_finish : (after .updFinish { ring 0x107 8 with ustate := .updating, ucur := 8, uacc := 16095 }).filtWord = 0x01EA07DB ∧
    (after .updFinish { ring 0x107 8 with ustate := .updating, ucur := 8, uacc := 16095 }).ccr = 490 ∧
    (after .updFinish { ring 0x107 8 with ustate := .updating, ucur := 8, uacc := 16095 }).sr = 0x020 := by decide
/-- Program P6: mean 34815 is clamped, with RNGF. -/
theorem test_upd_finish_clamps : (after .updFinish { ring 0x107 2 with ustate := .updating, ucur := 2, uacc := 69630 }).filtWord = 0x03E70FFF ∧
    (after .updFinish { ring 0x107 2 with ustate := .updating, ucur := 2, uacc := 69630 }).sr = 0x0A0 := by decide
/-- V-UPD-9. -/
theorem test_upd_direct :
    (after .updDirect { withCtrl 0x191 with dr := 2048, unc := true, sr := 1, trigp := true, tkind := .direct }).filtWord = 0x01F40800 ∧
    (after .updDirect { withCtrl 0x191 with dr := 2048, unc := true, sr := 1, trigp := true, tkind := .direct }).sr = 0x020 ∧
    (after .updDirect { withCtrl 0x191 with dr := 2048, unc := true, sr := 1, trigp := true, tkind := .direct }).unc = false := by decide

/-- V-TIM-2: the wrap from ARR. -/
theorem test_tick_wraps : (after .timTick { withCtrl 0x092 with arr := 3, ccr := 2, cnt := 3 }).cnt = 0 ∧
    (after .timTick { withCtrl 0x092 with arr := 3, ccr := 2, cnt := 3 }).ccra = 2 ∧
    (after .timTick { withCtrl 0x092 with arr := 3, ccr := 2, cnt := 3 }).sr = 0x200 := by decide
/-- V-TIM-3: TDIR becomes DOWN at 3, and UP at 0 with the update event. -/
theorem test_tick_center : (after .timTick { withCtrl 0x0B2 with arr := 3, cnt := 2 }).tdir = .down ∧
    (after .timTick { withCtrl 0x0B2 with arr := 3, cnt := 1, tdir := .down }).tdir = .up ∧
    (after .timTick { withCtrl 0x0B2 with arr := 3, cnt := 1, tdir := .down }).sr = 0x200 := by decide
/-- V-RST-1. -/
theorem test_reset : (after .reset { withCtrl 0x197 with sr := 0x7FF, ustate := .updating, mem := [(0x20000100, 7)] }).ctrlWord = 0x00A ∧
    (after .reset { withCtrl 0x197 with sr := 0x7FF, ustate := .updating, mem := [(0x20000100, 7)] }).sr = 0 ∧
    (after .reset { withCtrl 0x197 with sr := 0x7FF, ustate := .updating, mem := [(0x20000100, 7)] }).mem = [(0x20000100, 7)] := by decide
/-- V-DMA-19: the bytes of a slot that holds 4095. -/
theorem test_host_memrd :
    (after (.hostMemRd 0x20000100 1) { s0 with mem := [(0x20000100, 0xFF), (0x20000101, 0x0F)] }).resp = .memData 0xFF ∧
    (after (.hostMemRd 0x20000101 1) { s0 with mem := [(0x20000100, 0xFF), (0x20000101, 0x0F)] }).resp = .memData 0x0F := by decide
/-- A word write is little-endian (20_memory.md R103); past RAM_HI it is a host bus error (R116). -/
theorem test_host_memwr :
    (after (.hostMemWr 0x20000100 4 0x03E80001) s0).mem =
      [(0x20000100, 0x01), (0x20000101, 0x00), (0x20000102, 0xE8), (0x20000103, 0x03)] ∧
    (after (.hostMemWr 0x2001FFFE 4 5) s0).resp = .hostBusError ∧ (after (.hostMemWr 0x2001FFFE 4 5) s0).mem = [] := by decide
/-- V-BUS-13, V-BUS-14, V-ADC-4 and R150: refused, each by its name. -/
theorem test_refused : exec (.refusedZ001 0x800) s0 = .refused .reservedZ ∧ exec (.refusedSz11 false 0) s0 = .refused .reservedSize ∧
    exec (.adcEoc 4096) s0 = .refused .sampleOutOfRange ∧ exec .refusedEvtB s0 = .refused .reservedEvent := ⟨rfl, rfl, rfl, rfl⟩

/-! ### The interrupt request line (95_test_vectors.md 2.7) and the mapper (2.4) -/

theorem test_irq_table : ({ withCtrl 0x002 with sr := 0x001, ier := 0x001 } : State).irq = false ∧
    ({ withCtrl 0x000 with sr := 0x001, ier := 0x001 } : State).irq = true ∧
    ({ withCtrl 0x002 with sr := 0x008, ier := 0x028 } : State).irq = true ∧
    ({ withCtrl 0x002 with sr := 0x024, ier := 0x008 } : State).irq = false ∧
    ({ withCtrl 0x000 with sr := 0x400, ier := 0x400 } : State).irq = true ∧
    ({ withCtrl 0x000 with sr := 0x7FF, ier := 0x000 } : State).irq = false ∧
    ({ withCtrl 0x000 with sr := 0x000, ier := 0x7FF } : State).irq = false := by decide
theorem test_mapper_table : dutyMap 3 999 = 0 ∧ dutyMap 5 999 = 1 ∧ dutyMap 2011 999 = 490 ∧ dutyMap 2047 999 = 499 ∧
    dutyMap 4095 0 = 0 ∧ dutyMap 4095 4096 = 4095 ∧ dutyMap 4095 65535 = 65520 := by decide
/-- Source scenarios B and C. -/
theorem test_filter_scenarios : filterOf [4095, 4095, 4095, 4095, 4095, 4095, 4095, 4095] = 4095 ∧
    filterOf [0, 1000, 2000, 3000, 4000, 4095, 500, 1500] = 2011 := by decide
/-- V-TIM-7, V-TIM-8, V-TIM-9. -/
theorem test_pin : (withCtrl 0x000).pwmOut = false ∧ (withCtrl 0x040).pwmOut = true ∧
    ({ withCtrl 0x0C0 with ccra := 1 } : State).pwmOut = false := by decide

/-- V-TIM-3: active in 3 counts of 6; V-TIM-2: in 2 of 4. -/
theorem test_active_counts : activeTicks 6 { withCtrl 0x0B2 with arr := 3, ccra := 2 } = 3 ∧
    activeTicks 4 { withCtrl 0x092 with arr := 3, ccra := 2 } = 2 := by decide

/-! ### Witnesses: for each statement with hypotheses, data that meet them, clause by clause -/

theorem witness_DecodeOfEncodeIsTheOperation : Instr.wellFormed (.adcEoc 4095) = true ∧ Instr.wellFormed (.hostMemWr 0xFFFFFFFF 4 0xFFFFFFFF) = true ∧
    Instr.wellFormed (.subWord false true 0x3FF 0) = true ∧ Instr.wellFormed (.subWord true true 0x3FF 0xFFFFFFFF) = true := by decide
theorem witness_RefusedFormsHaveNoStep : (0x2000 : BitVec 16).extractLsb' 13 3 ≠ 0 ∧
    ((0x0C00 : BitVec 16).extractLsb' 13 3 = 0 ∧ (0x0C00 : BitVec 16).extractLsb' 10 2 = 3) ∧
    ((0 : BitVec 4) = 0 ∨ 0xB ≤ (0 : BitVec 4)) ∧ ((0xF : BitVec 4) = 0 ∨ 0xB ≤ (0xF : BitVec 4)) ∧ 2 ^ 12 ≤ 4096 ∧
    (3 ≠ 1 ∧ 3 ≠ 2 ∧ 3 ≠ 4) := by decide

/-- One input queued on reset. -/
def queued (l : Label) : State := { s0 with inputs := [{ halted := false, label := l }] }

theorem witness_StepRunsTheDecodedOperation :
    ((queued (.bus 0x0820 0)).inputs = { halted := false, label := .bus 0x0820 0 } :: [] ∧ decode (.bus 0x0820 0) = .ok .rdSr) ∧
    ((queued (.evt 1 4096 0 0 0)).inputs = { halted := false, label := .evt 1 4096 0 0 0 } :: [] ∧
      decode (.evt 1 4096 0 0 0) = .error .sampleOutOfRange) ∧
    ((queued (.evt 9 0 0 3 0)).inputs = { halted := false, label := .evt 9 0 0 3 0 } :: [] ∧
      decode (.evt 9 0 0 3 0) = .error .badAccessSize) ∧
    s0.inputs = [] := by decide
theorem witness_PlacedWordIsTheNextStep : decodeTableWord 16 0x1800 = some (.wrCtrl 0) ∧ decodeTableWord 8 0x7 = some .timTick := by decide
theorem witness_ReadStatAnswersTheHiddenState : ({ s0 with widx := 511 } : State).widx < 2 ^ 10 := by decide
theorem witness_ReadDrConsumesTheSample : s0.unc = false ∧ s0.sr.getLsbD 0 = false := by decide
theorem witness_OnlyTheReadOfDrHasASideEffect : isRead .rdFilt = true ∧ Instr.rdFilt ≠ .rdDr ∧ exec .rdFilt s0 = .next (after .rdFilt s0) ∧
    isRead (.hostMemRd 0x20000000 4) = true ∧ exec .rdDr s0 = .next (after .rdDr s0) := ⟨rfl, by decide, rfl, rfl, rfl⟩

/-- Each lock of a CTRL write held and not held. -/
theorem witness_WriteCtrlSetsItsFieldsUnderTheLocks :
    ((withCtrl 0x003).ctrl.aden = true ∧ (1 : Word).getLsbD 0 = true) ∧
    ¬ (((withCtrl 0x003).ctrl.aden = true ∧ (0 : Word).getLsbD 0 = true) ∨ (withCtrl 0x003).ustate = .updating ∨ (withCtrl 0x003).trigp = true) ∧
    ((withCtrl 0x006).ctrl.dmaen = true ∧ (4 : Word).getLsbD 2 = true) ∧
    ¬ (((withCtrl 0x006).ctrl.dmaen = true ∧ (0 : Word).getLsbD 2 = true) ∨ (withCtrl 0x006).ustate = .updating ∨ (withCtrl 0x006).trigp = true) ∧
    ((withCtrl 0x012).ctrl.timen = true ∧ (0x10 : Word).getLsbD 4 = true) ∧
    ¬ ((withCtrl 0x012).ctrl.timen = true ∧ (0 : Word).getLsbD 4 = true) := by decide
theorem witness_WriteCtrlStartsAndStopsTheTimer : (s0.ctrl.timen = false ∧ (0x10 : Word).getLsbD 4 = true) ∧
    (withCtrl 0x012).ctrl.timen = true ∧ (0 : Word).getLsbD 4 = false := by decide
theorem witness_WriteCtrlEnablesTheTransferEngine :
    (s0.ctrl.dmaen = false ∧ (6 : Word).getLsbD 2 = true ∧ ({ s0 with sr := 0x010 } : State).sr.getLsbD 4 = true) ∧
    (s0.ctrl.dmaen = false ∧ (6 : Word).getLsbD 2 = true ∧ s0.sr.getLsbD 4 = false ∧
      ¬ s0.plat.ramLo.toNat ≤ s0.rbase.toNat) ∧
    ((ring 0x002 8).ctrl.dmaen = false ∧ (6 : Word).getLsbD 2 = true ∧ (ring 0x002 8).sr.getLsbD 4 = false ∧
      (1 ≤ (ring 0x002 8).rlen.toNat ∧ (ring 0x002 8).rlen.toNat ≤ 256 ∧ (ring 0x002 8).rbase.toNat % 2 = 0 ∧
        (ring 0x002 8).plat.ramLo.toNat ≤ (ring 0x002 8).rbase.toNat ∧
        (ring 0x002 8).rbase.toNat + 2 * 8 - 1 ≤ (ring 0x002 8).plat.ramHi.toNat)) ∧
    ((withCtrl 0x006).ctrl.dmaen = true ∧ (2 : Word).getLsbD 2 = false) ∧
    (s0.ctrl.dmaen = (2 : Word).getLsbD 2) := by decide
theorem witness_WriteAdccfgUnderTheAdcLock : s0.ctrl.aden = false ∧
    ((withCtrl 0x003).ctrl.aden = true ∧ (0x700 : Word).toNat % 2 ^ 5 = (withCtrl 0x003).adccfg.chsel.toNat ∧
      (0x700 : Word).toNat / 2 ^ 8 % 2 ^ 3 = (withCtrl 0x003).adccfg.smp.toNat) ∧
    ((withCtrl 0x003).ctrl.aden = true ∧ (0x71F : Word).toNat % 2 ^ 5 ≠ (withCtrl 0x003).adccfg.chsel.toNat) := by decide
theorem witness_WriteRingRegistersUnderTheDmaLock :
    ¬ (s0.ctrl.dmaen = true ∨ s0.ustate = .updating ∨ s0.trigp = true) ∧
    (({ s0 with trigp := true } : State).trigp = true ∧ (0 : Word) = s0.rbase ∧ (8 : Word).toNat % 2 ^ 9 = s0.rlen.toNat) ∧
    ((withCtrl 0x006).ctrl.dmaen = true ∧ (0xFFFFFFFF : Word) ≠ (withCtrl 0x006).rbase ∧
      (0xFFFFFFFF : Word).toNat % 2 ^ 9 ≠ (withCtrl 0x006).rlen.toNat) := by decide
theorem witness_WriteTimerRegistersUnderTheTimLock : s0.ctrl.timen = false ∧
    ((withCtrl 0x012).ctrl.timen = true ∧ (0xFFFF03E7 : Word).toNat % 2 ^ 16 = (withCtrl 0x012).arr.toNat ∧
      (0xFFFF0000 : Word).toNat % 2 ^ 16 = (withCtrl 0x012).psc.toNat) ∧
    ((0xFFFF : Word).toNat % 2 ^ 16 ≠ (withCtrl 0x012).arr.toNat ∧ (0xFFFF : Word).toNat % 2 ^ 16 ≠ (withCtrl 0x012).psc.toNat) := by decide
theorem witness_WriteCcrOnlyWithoutTheUpdateUnit : (withCtrl 0x100).ctrl.upden = true ∧ s0.ctrl.upden = false := by decide
theorem witness_ReservedOffsetsReadZeroAndIgnoreWrites : 0x038 ≤ (0x038 : BitVec 10).toNat ∧ (0x038 : BitVec 10).toNat % 4 = 0 ∧
    0x038 ≤ (0x3FC : BitVec 10).toNat ∧ (0x3FC : BitVec 10).toNat % 4 = 0 := by decide
theorem witness_MalformedAccessesAnswerBusError : (0x0000 : BitVec 16).extractLsb' 13 3 = 0 ∧ (0x0000 : BitVec 16).extractLsb' 10 2 = 0 ∧
    (0x1428 : BitVec 16).extractLsb' 10 2 = 1 ∧ (0x0BFF : BitVec 16).extractLsb' 10 2 = 2 ∧ (0x0BFF : BitVec 16).extractLsb' 0 2 ≠ 0 ∧
    (0x1428 : BitVec 16).extractLsb' 13 3 = 0 ∧ (0x0BFF : BitVec 16).extractLsb' 13 3 = 0 := by decide
theorem witness_EventsNotEnabledChangeNothing : (Instr.adcEoc 7).wellFormed = true ∧ s0.enabledNow (.adcEoc 7) = false ∧ s0.enabledNow .dmaXfer = false ∧
    s0.enabledNow .updStart = false ∧ s0.enabledNow .updDirect = false ∧ s0.enabledNow .updRead = false ∧
    s0.enabledNow .updFinish = false ∧ s0.enabledNow .timTick = false := by decide
theorem witness_ConversionDepositsTheSample : 4095 < 2 ^ 12 ∧ (withCtrl 0x101).enabledNow (.adcEoc 4095) = true ∧
    ((withCtrl 0x101).ctrl.mode = false ∧ (withCtrl 0x101).ctrl.upden = true) ∧
    ((withCtrl 0x107).enabledNow (.adcEoc 0) = true ∧ ¬ ((withCtrl 0x107).ctrl.mode = false ∧ (withCtrl 0x107).ctrl.upden = true)) := by decide
/-- The three statements about a completed transfer: a slot inside the buffer, and its last one; torn and not torn. -/
theorem witness_TransferStoresTheSampleInItsSlot_Events_TornRead : (xfer.enabledNow .dmaXfer = true ∧ xfer.memOK (xfer.slotAddr xfer.widx) 2 = true) ∧
    (({ xfer with widx := 7 } : State).enabledNow .dmaXfer = true ∧
      ({ xfer with widx := 7 } : State).memOK (({ xfer with widx := 7 } : State).slotAddr 7) 2 = true ∧ 7 + 1 = xfer.rlen.toNat) ∧
    (({ xfer with trigp := true } : State).trigp = true ∧ xfer.tkind ≠ .direct ∧ 0 ≤ xfer.widx ∧ xfer.widx < 0 + xfer.rlen.toNat) ∧
    (xfer.trigp = false ∧ xfer.ustate ≠ .updating) := by decide
theorem witness_TransferErrorStopsTheEngine : ({ xfer with rbase := 0 } : State).enabledNow .dmaXfer = true ∧
    ({ xfer with rbase := 0 } : State).memOK (({ xfer with rbase := 0 } : State).slotAddr 3) 2 = false := by decide
theorem witness_PassStartTakesTheTrigger : ({ ring 0x107 8 with trigp := true } : State).enabledNow .updStart = true := by decide
theorem witness_PassReadAddsItsSlotOrEndsThePass :
    (pass.enabledNow .updRead = true ∧ pass.memOK (pass.slotAddr (pass.ubase + pass.ucur)) 2 = true) ∧
    (({ pass with rbase := 0 } : State).enabledNow .updRead = true ∧
      ({ pass with rbase := 0 } : State).memOK (({ pass with rbase := 0 } : State).slotAddr (pass.ubase + pass.ucur)) 2 = false) := by decide
theorem witness_PassFinishWritesTheDuty : ({ ring 0x107 8 with ustate := .updating, ucur := 8, uacc := 16095 } : State).enabledNow .updFinish = true ∧
    ({ ring 0x107 0 with ustate := .updating } : State).enabledNow .updFinish = true := by decide
theorem witness_DirectPassMapsTheFreshestSample : ({ withCtrl 0x191 with trigp := true, tkind := .direct } : State).enabledNow .updDirect = true := by decide
theorem witness_TickAdvancesThePrescaler : ((withCtrl 0x012).enabledNow .timTick = true ∧ (0 : Half).toNat < (1 : Half).toNat) ∧
    (({ withCtrl 0x012 with arr := 0 } : State).enabledNow .timTick = true ∧ (withCtrl 0x012).psc.toNat ≤ (withCtrl 0x012).psccnt.toNat) := by decide
theorem witness_UpCountingWrapsAtArr : (withCtrl 0x012).enabledNow .timTick = true ∧ (withCtrl 0x012).psc.toNat ≤ (withCtrl 0x012).psccnt.toNat ∧
    (withCtrl 0x012).ctrl.cms = false ∧ 1 ≤ (withCtrl 0x012).arr.toNat ∧ (withCtrl 0x012).cnt.toNat < (withCtrl 0x012).arr.toNat ∧
    (withCtrl 0x012).arr.toNat ≤ ({ withCtrl 0x012 with cnt := 999 } : State).cnt.toNat := by decide
theorem witness_CenterAlignedCountingTurnsAtBothEnds : (withCtrl 0x032).enabledNow .timTick = true ∧ (withCtrl 0x032).psc.toNat ≤ (withCtrl 0x032).psccnt.toNat ∧
    (withCtrl 0x032).ctrl.cms = true ∧ 1 ≤ (withCtrl 0x032).arr.toNat ∧
    ((withCtrl 0x032).tdir = .up ∧ (withCtrl 0x032).cnt.toNat < (withCtrl 0x032).arr.toNat) ∧
    (({ withCtrl 0x032 with tdir := .down, cnt := 2 } : State).tdir = .down ∧ 1 < ({ withCtrl 0x032 with tdir := .down, cnt := 2 } : State).cnt.toNat) ∧
    ({ withCtrl 0x032 with tdir := .down, cnt := 1 } : State).cnt.toNat = 1 := by decide
theorem witness_HostMemoryAccesses : s0.memOK (0x20000000 : Word).toNat 1 = true ∧ s0.memOK (0x2001FFFE : Word).toNat 2 = true ∧
    s0.memOK (0x2001FFFC : Word).toNat 4 = true ∧ s0.memOK (0x2001FFFD : Word).toNat 4 = false ∧
    s0.memOK (0x1FFFFFFF : Word).toNat 1 = false := by decide
theorem witness_PinFollowsTheComparator : (withCtrl 0x000).ctrl.oe = false ∧
    ((withCtrl 0x080).ctrl.oe = true ∧ (withCtrl 0x080).cnt.toNat < ({ withCtrl 0x080 with ccra := 1 } : State).ccra.toNat) ∧
    (withCtrl 0x080).ccra.toNat ≤ (withCtrl 0x080).cnt.toNat := by decide
theorem witness_MapperLaws : 4095 ≤ 4095 ∧ 2 ≤ 3 := by decide
theorem witness_FilterLaws : ([4095, 0] : List Nat) ≠ [] ∧ (∀ v ∈ ([4095, 0] : List Nat), v ≤ 4095) ∧
    ([4095, 0] : List Nat).Perm [0, 4095] := by decide

/-! The rules of the whole block. -/

theorem witness_OnlyTimerStepsWriteTheActiveCompare :
    (exec .timTick { withCtrl 0x012 with cnt := 999, ccr := 7 } = .next (after .timTick { withCtrl 0x012 with cnt := 999, ccr := 7 }) ∧
      (after .timTick { withCtrl 0x012 with cnt := 999, ccr := 7 }).ccra ≠ ({ withCtrl 0x012 with cnt := 999, ccr := 7 } : State).ccra) ∧
    (exec (.wrCtrl 0x10) { s0 with ccr := 7 } = .next (after (.wrCtrl 0x10) { s0 with ccr := 7 }) ∧
      (after (.wrCtrl 0x10) { s0 with ccr := 7 }).ccra ≠ ({ s0 with ccr := 7 } : State).ccra) :=
  ⟨⟨rfl, by decide⟩, ⟨rfl, by decide⟩⟩
theorem witness_FlagsAreClearedOnlyOnPurpose :
    (exec (.wrSr 0x400) { s0 with sr := 0x7FF } = .next (after (.wrSr 0x400) { s0 with sr := 0x7FF }) ∧
      ({ s0 with sr := 0x7FF } : State).sr.getLsbD 10 = true ∧ (after (.wrSr 0x400) { s0 with sr := 0x7FF }).sr.getLsbD 10 = false) ∧
    (exec .rdDr { s0 with sr := 1 } = .next (after .rdDr { s0 with sr := 1 }) ∧
      ({ s0 with sr := 1 } : State).sr.getLsbD 0 = true ∧ (after .rdDr { s0 with sr := 1 }).sr.getLsbD 0 = false) :=
  ⟨⟨rfl, by decide, by decide⟩, ⟨rfl, by decide, by decide⟩⟩
theorem witness_OnlyTransfersAndTheHostWriteMemory :
    (exec .dmaXfer { xfer with mem := [(0x20000106, 0)] } = .next (after .dmaXfer { xfer with mem := [(0x20000106, 0)] }) ∧
      (after .dmaXfer { xfer with mem := [(0x20000106, 0)] }).mem.byteAt 0x20000106 ≠
        ({ xfer with mem := [(0x20000106, 0)] } : State).mem.byteAt 0x20000106) ∧
    (exec (.hostMemWr 0x20000106 1 5) { xfer with mem := [(0x20000106, 0)] } =
        .next (after (.hostMemWr 0x20000106 1 5) { xfer with mem := [(0x20000106, 0)] }) ∧
      (after (.hostMemWr 0x20000106 1 5) { xfer with mem := [(0x20000106, 0)] }).mem.byteAt 0x20000106 ≠
        ({ xfer with mem := [(0x20000106, 0)] } : State).mem.byteAt 0x20000106) :=
  ⟨⟨rfl, by decide⟩, ⟨rfl, by decide⟩⟩

/-- A finished pass of eight slots. -/
def finishing : State := { ring 0x107 8 with ustate := .updating, ucur := 8, uacc := 16095 }

theorem witness_OnlyTheNotifierWritesTheCompareRegister : exec .updFinish finishing = .next (after .updFinish finishing) ∧
    (after .updFinish finishing).ccr ≠ finishing.ccr ∧ (after .updFinish finishing).filt ≠ finishing.filt := ⟨rfl, by decide, by decide⟩
theorem witness_PeriodAndModeAreFixedWhileTheTimerRuns : exec (.wrArr 5) (withCtrl 0x012) = .next (after (.wrArr 5) (withCtrl 0x012)) ∧ Instr.wrArr 5 ≠ .reset ∧
    (withCtrl 0x012).ctrl.timen = true ∧ (after (.wrArr 5) (withCtrl 0x012)).ctrl.timen = true := ⟨rfl, by decide, by decide, by decide⟩
theorem witness_EnablesMaskOnlyTheRequestLine : Instr.dmaXfer ≠ .rdIer ∧ Instr.dmaXfer ≠ .reset ∧ (∀ d, Instr.dmaXfer ≠ .wrIer d) ∧
    exec .dmaXfer xfer = .next (after .dmaXfer xfer) := ⟨by decide, by decide, fun _ h => (by cases h), rfl⟩
theorem witness_NoOperationChangesThePlatform : exec .dmaXfer xfer = .next (after .dmaXfer xfer) := rfl

/-- A legal ring with the engine enabled and a transfer requested; reset's other values. -/
def sound : State := { ring 0x006 8 with dreq := true, inputs := [{ halted := false, label := .evt 2 0 0 0 0 }] }

theorem sound_inv : sound.Inv where
  memory := rfl
  geometry :=
    { enabledLegal := fun _ => by decide
      passLegal := fun _ => by decide
      running := fun h => by cases h
      pendingRing1 := fun h => by cases h
      widxRange := by decide
      ucurRange := by decide
      ubaseRange := by decide }
  timer := fun h => by cases h
  events := ⟨fun _ => by decide, fun h => (by cases h), fun h => (by cases h)⟩
  sum := by unfold State.SumOk; decide

/-- The same ring with a pass that has read two slots. -/
def reading : State := { ring 0x107 8 with ustate := .updating, ucur := 2, uacc := 8190 }

theorem reading_inv : reading.Inv where
  memory := rfl
  geometry :=
    { enabledLegal := fun _ => by decide
      passLegal := fun _ => by decide
      running := fun _ => by decide
      pendingRing1 := fun h => by cases h
      widxRange := by decide
      ucurRange := by decide
      ubaseRange := by decide }
  timer := fun h => by cases h
  events := ⟨fun h => (by cases h), fun h => (by cases h), fun h => (by cases h)⟩
  sum := by unfold State.SumOk; decide

theorem witness_EveryStepKeepsTheInvariant : sound.Inv ∧ ∃ t, step sound = .next t := ⟨sound_inv, _, rfl⟩
theorem witness_BlockAccessesStayInTheBuffer : (sound.Inv ∧ sound.enabledNow .dmaXfer = true) ∧ (reading.Inv ∧ reading.enabledNow .updRead = true) :=
  ⟨⟨sound_inv, by decide⟩, ⟨reading_inv, by decide⟩⟩
theorem witness_UninterruptedRingPassComputesTheDuty : ({ ring 0x10F 2 with trigp := true, tkind := .ring1 } : State).enabledNow .updStart = true ∧
    ∀ j, j < (ring 0x10F 2).rlen.toNat → ({ ring 0x10F 2 with trigp := true, tkind := .ring1 } : State).memOK
      (({ ring 0x10F 2 with trigp := true, tkind := .ring1 } : State).slotAddr ((ring 0x10F 2).ringBase .ring1 + j)) 2 = true := by decide
theorem witness_UpCountingPeriod : ({ withCtrl 0x012 with psc := 71 } : State).enabledNow .timTick = true ∧ (withCtrl 0x012).ctrl.cms = false ∧
    1 ≤ (withCtrl 0x012).arr.toNat ∧ (withCtrl 0x012).cnt = 0 ∧ (withCtrl 0x012).psccnt = 0 := by decide
theorem witness_CenterAlignedPeriod : (withCtrl 0x032).enabledNow .timTick = true ∧ (withCtrl 0x032).ctrl.cms = true ∧
    1 ≤ (withCtrl 0x032).arr.toNat ∧ (withCtrl 0x032).psc = 0 ∧ (withCtrl 0x032).cnt = 0 ∧ (withCtrl 0x032).psccnt = 0 ∧
    (withCtrl 0x032).tdir = .up := by decide
theorem witness_ActiveCountsOfOnePeriod :
    ((withCtrl 0x092).enabledNow .timTick = true ∧ (withCtrl 0x092).ctrl.oe = true ∧ 1 ≤ (withCtrl 0x092).arr.toNat ∧
      (withCtrl 0x092).psc = 0 ∧ (withCtrl 0x092).cnt = 0 ∧ (withCtrl 0x092).psccnt = 0 ∧ (withCtrl 0x092).ctrl.cms = false) ∧
    ((withCtrl 0x0B2).enabledNow .timTick = true ∧ (withCtrl 0x0B2).ctrl.oe = true ∧ (withCtrl 0x0B2).ctrl.cms = true ∧
      (withCtrl 0x0B2).tdir = .up) := by decide

end Sys2Proof.Tests
end

section
/-! PROOFS. The scope of the block (spec/00_scope.md): what a step takes from its input queue (R18, R19, assumption 1), and what no
operation touches (R10, assumptions 1, 3, 10). -/

namespace Sys2Proof.Machine

/-! ### The step -/

section step
variable {s t : State} {inp : Input} {rest : List Input} {i : Instr} {r : Reject}

/-- With an input queued, the next step is given the oldest one. -/
theorem State.nextInput_of_cons (h : s.inputs = inp :: rest) : s.nextInput = inp := by
  simp [State.nextInput, h]

/-- With no input queued, the next step is given the free input of its number. -/
theorem State.nextInput_of_nil (h : s.inputs = []) : s.nextInput = Config.freeInput s.stepNo := by
  simp [State.nextInput, h]

theorem State.fetched_of_cons (h : s.inputs = inp :: rest) :
    s.fetched = { s with hostHalted := inp.halted, inputs := rest, stepNo := s.stepNo + 1 } := by
  simp [State.fetched, State.nextInput_of_cons h, h]

theorem State.fetched_of_nil (h : s.inputs = []) :
    s.fetched = { s with hostHalted := (Config.freeInput s.stepNo).halted, inputs := [], stepNo := s.stepNo + 1 } := by
  simp [State.fetched, State.nextInput_of_nil h, h]

theorem step_of_decode_ok (h : decode s.nextInput.label = .ok i) : step s = exec i s.fetched := by
  simp [step, h]

theorem step_of_decode_error (h : decode s.nextInput.label = .error r) : step s = .refused (rejectRefusal r) := by
  simp [step, h]

/-- A step sees no more of the state than its input and the state with that input taken. -/
theorem step_congr (hinput : s.nextInput = t.nextInput) (hfetched : s.fetched = t.fetched) : step s = step t := by
  simp only [step, hinput, hfetched]

/-- Taking the free input is taking the same input from the queue. -/
theorem step_of_nil (h : s.inputs = []) : step s = step { s with inputs := [Config.freeInput s.stepNo] } :=
  step_congr (State.nextInput_of_nil h) (State.fetched_of_nil h)

end step

/-- Settles O5, from the step's two outcomes and what the queue gives it. -/
theorem stepRunsTheDecodedOperation : Obligations.StepRunsTheDecodedOperation := by
  refine ⟨fun s inp rest i hq hd => ?_, fun s inp rest hq => ?_, fun s hq => step_of_nil hq⟩
  · rw [← State.fetched_of_cons hq]
    exact step_of_decode_ok (by rwa [State.nextInput_of_cons hq])
  · rw [← State.nextInput_of_cons hq]
    exact ⟨step_of_decode_error, step_of_decode_error⟩

/-! ### What no operation touches -/

/-- `t` has the platform's parameters and everything outside the block as `s` has them. -/
def State.SameOutside (s t : State) : Prop :=
  t.plat = s.plat ∧ t.inputs = s.inputs ∧ t.stepNo = s.stepNo ∧ t.hostHalted = s.hostHalted

section sameOutside
variable (s : State)

theorem State.sameOutside_refl : s.SameOutside s := ⟨rfl, rfl, rfl, rfl⟩

variable {s}

theorem State.SameOutside.ite {t u : State} {c : Prop} {_ : Decidable c} (ht : s.SameOutside t) (hu : s.SameOutside u) :
    s.SameOutside (if c then t else u) := by
  split
  · exact ht
  · exact hu

/-- An event: its body when it is enabled, a stutter when it is not (assumption 2). -/
theorem State.SameOutside.event {t : State} {c : Prop} {_ : Decidable c} (h : s.SameOutside t) :
    s.SameOutside (if c then t else s) :=
  h.ite s.sameOutside_refl

theorem State.SameOutside.done {t : State} (h : s.SameOutside t) : s.SameOutside t.done := h

/-- The answer of an operation that has one outcome. -/
theorem State.SameOutside.of_next {t u : State} (e : (.next u : Host.Outcome State Fault Refusal) = .next t)
    (h : s.SameOutside u) : s.SameOutside t := by
  obtain rfl := Host.Outcome.next.inj e
  exact h

/-- The answer of an operation that is refused when its operand is out of range (spec/30_encoding.md R150). -/
theorem State.SameOutside.of_guarded {t u : State} {c : Prop} {_ : Decidable c} {r : Refusal}
    (e : (if c then .next u else .refused r : Host.Outcome State Fault Refusal) = .next t) (h : s.SameOutside u) :
    s.SameOutside t := by
  split at e
  · exact .of_next e h
  · cases e

variable (s)

theorem State.conversion_sameOutside (x : Sample) : s.SameOutside (s.conversion x) := by simp [State.SameOutside]
theorem State.transfer_sameOutside : s.SameOutside s.transfer := by simp [State.SameOutside]
theorem State.startPass_sameOutside : s.SameOutside s.startPass := by simp [State.SameOutside]
theorem State.directPass_sameOutside : s.SameOutside s.directPass := by simp [State.SameOutside]
theorem State.readSlot_sameOutside : s.SameOutside s.readSlot := by simp [State.SameOutside]
theorem State.finishPass_sameOutside : s.SameOutside s.finishPass := by simp [State.SameOutside]
theorem State.tick_sameOutside : s.SameOutside s.tick := by simp [State.SameOutside]
theorem State.resetBlock_sameOutside : s.SameOutside s.resetBlock := by simp [State.SameOutside]
theorem State.writeCtrl_sameOutside (w : Ctrl) : s.SameOutside (s.writeCtrl w) := by simp [State.SameOutside]
theorem State.setFlagIf_sameOutside (c : Bool) (f : Flag) : s.SameOutside (s.setFlagIf c f) := by simp [State.SameOutside]

end sameOutside

/-- An operation that answers keeps the platform and what is outside the block. Where `sameOutside_refl` closes an arm, its next state is
`s` with other fields replaced. -/
theorem exec_sameOutside {i : Instr} {s t : State} (h : exec i s = .next t) : s.SameOutside t := by
  cases i with
  -- A register read; that of DR also consumes the value.
  | rdCtrl | rdAdccfg | rdRbase | rdRlen | rdArr | rdPsc | rdCcr | rdCnt | rdSr | rdIer | rdDr | rdStat | rdFilt | rdOvrcnt
  | rdRsv038 | rdRsv040 | rdRsv080 | rdRsv100 | rdRsv200 => exact .of_next h s.sameOutside_refl
  -- A write of a register with no lock, an ignored write, and a bus error.
  | wrCnt | wrSr | wrIer | wrDr | wrStat | wrFilt | wrOvrcnt | wrRsv038 | wrRsv040 | wrRsv080 | wrRsv100 | wrRsv200
  | subWord | oddOffset | twoModFour => exact .of_next h s.sameOutside_refl
  -- A write under a lock, which may raise CFGE beside the field (R205).
  | wrAdccfg | wrRbase | wrRlen | wrArr | wrPsc => exact .of_next h (.done (State.setFlagIf_sameOutside _ _ _))
  | wrCtrl => exact .of_next h (s.writeCtrl_sameOutside _).done
  | wrCcr => exact .of_next h (.done (.ite s.sameOutside_refl s.sameOutside_refl))
  | adcEoc => exact .of_guarded h (s.conversion_sameOutside _).event
  | dmaXfer => exact .of_next h s.transfer_sameOutside.event
  | updStart => exact .of_next h s.startPass_sameOutside.event
  | updDirect => exact .of_next h s.directPass_sameOutside.event
  | updRead => exact .of_next h s.readSlot_sameOutside.event
  | updFinish => exact .of_next h s.finishPass_sameOutside.event
  | timTick => exact .of_next h s.tick_sameOutside.event
  | reset => exact .of_next h s.resetBlock_sameOutside
  | hostMemRd => exact .of_guarded h s.sameOutside_refl
  | hostMemWr => exact .of_guarded h (.ite s.sameOutside_refl s.sameOutside_refl)
  -- The forms that spell no operation answer no next state (R150).
  | refusedZ1xx | refusedZ01x | refusedZ001 | refusedSz11 | refusedEvt0 | refusedEvtB | refusedEvtCF => cases h

/-- Settles O53: the operations' frame, one arm of `exec` at a time. -/
theorem noOperationChangesThePlatform : Obligations.NoOperationChangesThePlatform :=
  fun _ _ _ h => exec_sameOutside h

end Sys2Proof.Machine
end

section
/-! PROOFS. System memory (spec/20_memory.md): the order of its bytes (R103), the host's own accesses (R115, R116), the slot a transfer
writes (R105, R303), reads without a side effect (R108), and who writes the compare register (R120). -/

namespace Sys2Proof.Machine

/-! ### The order of the bytes -/

/-- A read of `k + n` bytes is the read of the `k` low ones with that of the `n` high ones above it. -/
theorem Memory.read_add (m : Memory) (a k n : Nat) : m.read a (k + n) = m.read a k + 2 ^ (8 * k) * m.read (a + k) n := by
  induction k generalizing a with
  | zero => simp [Memory.read]
  | succ k ih =>
    have hpow : 2 ^ (8 * (k + 1)) = 2 ^ 8 * 2 ^ (8 * k) := by rw [← pow_add]; congr 1; omega
    have haddr : a + 1 + k = a + (k + 1) := by omega
    rw [Nat.succ_add_eq_add_succ, Nat.add_succ, Memory.read, Memory.read, ih, hpow, haddr]
    ring

/-- What was written is read back, cut to the width of the access. -/
theorem Memory.read_write_self (m : Memory) (a n v : Nat) : (m.write a n v).read a n = v % 2 ^ (8 * n) := by
  induction n generalizing m a v with
  | zero => simp [Memory.read, Nat.mod_one]
  | succ n ih =>
    have hlow : ((m.write a (n + 1) v).byteAt a).toNat = v % 2 ^ 8 := by
      simpa using Memory.byteAt_write_inside (n + 1) m a v 0 n.succ_pos
    have hpow : 2 ^ (8 * (n + 1)) = 2 ^ 8 * 2 ^ (8 * n) := by rw [← pow_add]; congr 1; omega
    rw [Memory.read, hlow, Memory.write, ih, hpow, Nat.mod_mul]

/-- Settles O42: a wide read splits at any byte, and a read undoes a write of the same width. -/
theorem memoryIsLittleEndian : Obligations.MemoryIsLittleEndian :=
  ⟨fun m a => by simp [Memory.read], Memory.read_two, fun m a => m.read_add a 2 2, Memory.read_write_self⟩

/-! ### The host's own accesses -/

theorem accessSizeOk_iff {n : Nat} : accessSizeOk n = true ↔ n = 1 ∨ n = 2 ∨ n = 4 := by
  simp [accessSizeOk, or_assoc]

section hostAccess
variable {n : Nat} (hsize : accessSizeOk n = true) (s : State) (a v : Word)
include hsize

/-- A host read of an admitted size, by what MemOK says. -/
theorem exec_hostMemRd : exec (.hostMemRd a n) s = .next { s with
    resp := if s.memOK a.toNat n then .memData (BitVec.ofNat 32 (s.mem.read a.toNat n)) else .hostBusError } :=
  if_pos hsize

/-- A host write of an admitted size, by what MemOK says. -/
theorem exec_hostMemWr : exec (.hostMemWr a n v) s = .next (if s.memOK a.toNat n
    then { s with mem := s.mem.write a.toNat n v.toNat, resp := .memDone } else { s with resp := .hostBusError }) :=
  if_pos hsize

end hostAccess

/-- Settles O41: the two accesses by what MemOK says, and the bytes of a wide write. -/
theorem hostMemoryAccesses : Obligations.HostMemoryAccesses := by
  intro s a n v hn
  rw [exec_hostMemRd (accessSizeOk_iff.mpr hn), exec_hostMemWr (accessSizeOk_iff.mpr hn)]
  refine ⟨fun hok => ?_, fun hok => by simp [hok]⟩
  rw [if_pos hok, if_pos hok]
  exact ⟨rfl, s.mem.write a.toNat n v.toNat, rfl, Memory.byteAt_write_inside n _ _ _,
    fun _ hb => Memory.byteAt_write_outside n _ _ _ hb⟩

/-! ### The slot a transfer writes -/

section transfer
variable (s : State)

/-- A transfer leaves all but CTRL, memory, SR, the transfer's request and index, the data register's mark and the trigger. -/
theorem State.transfer_frame : { s.transfer with
    ctrl := s.ctrl, mem := s.mem, unc := s.unc, sr := s.sr, dreq := s.dreq, widx := s.widx, trigp := s.trigp, tkind := s.tkind } = s := by
  apply State.ext <;> simp

@[simp] theorem State.consumeDR_slotAddr (i : Nat) : s.consumeDR.slotAddr i = s.slotAddr i := rfl
@[simp] theorem State.checkTornRead_slotAddr (i j : Nat) : (s.checkTornRead i).slotAddr j = s.slotAddr j := by
  simp [State.slotAddr]

/-! A transfer to a slot that MemOK admits. -/

variable {s} (hok : s.memOK (s.slotAddr s.widx) 2 = true)
include hok

theorem State.transfer_of_memOK : s.transfer =
    (((s.consumeDR.checkTornRead s.widx).storeSlot).halfTransfer (s.widx + 1)).advanceSlot (s.widx + 1) := by
  simp [State.transfer, hok]

theorem State.transfer_ctrl_of_memOK : s.transfer.ctrl = s.ctrl := by simp [State.transfer_of_memOK hok]
theorem State.transfer_unc_of_memOK : s.transfer.unc = false := by simp [State.transfer_of_memOK hok]
theorem State.transfer_dreq_of_memOK : s.transfer.dreq = false := by simp [State.transfer_of_memOK hok]
theorem State.transfer_mem_of_memOK : s.transfer.mem = s.mem.write (s.slotAddr s.widx) 2 s.dr.toNat := by
  simp [State.transfer_of_memOK hok]

/-- Of the flags of a completed transfer, none is EOC, which `consumeDR()` has cleared. -/
theorem State.transfer_eoc_of_memOK : s.transfer.sr.getLsbD 0 = false := by
  have hclear : (s.consumeDR.checkTornRead s.widx).sr.getLsbD 0 = false := by
    rw [State.checkTornRead, State.setFlagIf_bit, State.consumeDR_bit]
    simp [Flag.code]
  rw [State.transfer_of_memOK hok, State.advanceSlot_bit, State.halfTransfer_bit, State.storeSlot_sr, hclear]
  simp

theorem State.transfer_widx_of_memOK : s.transfer.widx = if s.widx + 1 = s.bufLen then 0 else s.widx + 1 := by
  obtain ⟨-, -, hwidx⟩ := State.advanceSlot_trigger
    (((s.consumeDR.checkTornRead s.widx).storeSlot).halfTransfer (s.widx + 1)) (s.widx + 1)
  have hlen : (((s.consumeDR.checkTornRead s.widx).storeSlot).halfTransfer (s.widx + 1)).bufLen = s.bufLen := by
    simp [State.bufLen]
  rw [State.transfer_of_memOK hok, hwidx, hlen]

end transfer

/-- Settles O28: the fields of a completed transfer, its two bytes those of a 16-bit write of a 12-bit sample. -/
theorem transferStoresTheSampleInItsSlot : Obligations.TransferStoresTheSampleInItsSlot := by
  intro s hen hok
  have hframe := s.transfer_frame
  rw [← State.transfer_ctrl_of_memOK hok] at hframe
  have hdr := s.dr.isLt
  refine ⟨s.transfer, congrArg Host.Outcome.next (if_pos hen), rfl, ?_, ?_, ?_, State.transfer_unc_of_memOK hok,
    State.transfer_eoc_of_memOK hok, State.transfer_dreq_of_memOK hok, State.transfer_widx_of_memOK hok, ?_⟩
  · rw [State.transfer_mem_of_memOK hok]
    simpa using Memory.byteAt_write_inside 2 s.mem (s.slotAddr s.widx) s.dr.toNat 0 (by decide)
  · rw [State.transfer_mem_of_memOK hok, Memory.byteAt_write_inside 2 _ _ _ 1 (by decide)]
    omega
  · intro a hlow hhigh
    rw [State.transfer_mem_of_memOK hok]
    exact Memory.byteAt_write_outside 2 _ _ _ (by omega)
  · exact hframe

/-! ### What an arm of `exec` answers

Each arm answers one state, a state by the operation's condition, or, out of its operand's range, a refusal. -/

section arms
variable {P : State → Prop} {t u v : State} {c : Prop} {_ : Decidable c}

theorem next_keeps (e : (.next u : Host.Outcome State Fault Refusal) = .next t) (h : P u) : P t := by
  obtain rfl := Host.Outcome.next.inj e
  exact h

theorem ite_keeps (hu : P u) (hv : P v) : P (if c then u else v) :=
  iteInduction (fun _ => hu) (fun _ => hv)

/-- An operand out of range answers no next state (spec/30_encoding.md R150). -/
theorem guarded_keeps {r : Refusal} (e : (if c then .next u else .refused r : Host.Outcome State Fault Refusal) = .next t)
    (h : P u) : P t := by
  split at e
  · exact next_keeps e h
  · cases e

end arms

/-! ### Reads and their side effect -/

/-- `t` differs from `s` in the response alone. -/
def State.SameButResponse (s t : State) : Prop := { t with resp := s.resp } = s

theorem exec_read_sameButResponse {i : Instr} {s t : State} (hread : isRead i = true) (hdr : i ≠ .rdDr)
    (h : exec i s = .next t) : s.SameButResponse t := by
  cases i with
  | rdCtrl | rdAdccfg | rdRbase | rdRlen | rdArr | rdPsc | rdCcr | rdCnt | rdSr | rdIer | rdStat | rdFilt | rdOvrcnt
  | rdRsv038 | rdRsv040 | rdRsv080 | rdRsv100 | rdRsv200 => exact next_keeps h rfl
  | hostMemRd => exact guarded_keeps h rfl
  | rdDr => exact absurd rfl hdr
  | _ => cases hread

theorem exec_rdDr (s : State) : exec .rdDr s = .next (s.consumeDR.answer s.drWord) := rfl

/-- Settles O13: the reads' one inversion, and `consumeDR()` on a state that holds an unconsumed value. -/
theorem onlyTheReadOfDrHasASideEffect : Obligations.OnlyTheReadOfDrHasASideEffect := by
  refine ⟨fun _ _ _ => exec_read_sameButResponse, fun s t h => ?_,
    { State.reset with unc := true }, _, exec_rdDr _, fun h => ?_⟩
  · obtain rfl := Host.Outcome.next.inj ((exec_rdDr s).symm.trans h)
    have heoc : s.consumeDR.sr.getLsbD 0 = false := by rw [State.consumeDR_bit]; simp
    exact ⟨rfl, heoc⟩
  · cases congrArg State.unc h

/-! ### Who writes the compare register -/

/-- `t` has CCR and FILT as `s` has them. -/
def State.SameCompare (s t : State) : Prop := t.ccr = s.ccr ∧ t.filt = s.filt

theorem State.sameCompare_refl (s : State) : s.SameCompare s := ⟨rfl, rfl⟩

/-- An operation that answers keeps CCR and FILT, unless it is one of the four that write them. -/
theorem exec_sameCompare {i : Instr} {s t : State} (h : exec i s = .next t) :
    s.SameCompare t ∨ i = .reset ∨ i = .updFinish ∨ i = .updDirect ∨ ∃ d, i = .wrCcr d := by
  cases i with
  | reset => exact .inr (.inl rfl)
  | updFinish => exact .inr (.inr (.inl rfl))
  | updDirect => exact .inr (.inr (.inr (.inl rfl)))
  | wrCcr d => exact .inr (.inr (.inr (.inr ⟨d, rfl⟩)))
  -- A register read, a write of a register with no lock, an ignored write, and a bus error.
  | rdCtrl | rdAdccfg | rdRbase | rdRlen | rdArr | rdPsc | rdCcr | rdCnt | rdSr | rdIer | rdDr | rdStat | rdFilt | rdOvrcnt
  | rdRsv038 | rdRsv040 | rdRsv080 | rdRsv100 | rdRsv200 | wrCnt | wrSr | wrIer | wrDr | wrStat | wrFilt | wrOvrcnt
  | wrRsv038 | wrRsv040 | wrRsv080 | wrRsv100 | wrRsv200 | subWord | oddOffset | twoModFour =>
    exact .inl (next_keeps h s.sameCompare_refl)
  -- A write under a lock, which may raise CFGE beside the field (R205).
  | wrAdccfg | wrRbase | wrRlen | wrArr | wrPsc =>
    exact .inl (next_keeps h ⟨State.setFlagIf_ccr _ _ _, State.setFlagIf_filt _ _ _⟩)
  | wrCtrl => exact .inl (next_keeps h ⟨s.writeCtrl_ccr _, s.writeCtrl_filt _⟩)
  | adcEoc => exact .inl (guarded_keeps h (ite_keeps ⟨s.conversion_ccr _, s.conversion_filt _⟩ s.sameCompare_refl))
  | dmaXfer => exact .inl (next_keeps h (ite_keeps ⟨s.transfer_ccr, s.transfer_filt⟩ s.sameCompare_refl))
  | updStart => exact .inl (next_keeps h (ite_keeps ⟨s.startPass_ccr, s.startPass_filt⟩ s.sameCompare_refl))
  | updRead => exact .inl (next_keeps h (ite_keeps ⟨s.readSlot_ccr, s.readSlot_filt⟩ s.sameCompare_refl))
  | timTick => exact .inl (next_keeps h (ite_keeps ⟨s.tick_ccr, s.tick_filt⟩ s.sameCompare_refl))
  | hostMemRd => exact .inl (guarded_keeps h s.sameCompare_refl)
  | hostMemWr => exact .inl (guarded_keeps h (ite_keeps s.sameCompare_refl s.sameCompare_refl))
  -- The forms that spell no operation answer no next state (R150).
  | refusedZ1xx | refusedZ01x | refusedZ001 | refusedSz11 | refusedEvt0 | refusedEvtB | refusedEvtCF => cases h

/-- A write of CCR leaves FILT, and CCR too while the update unit owns it (spec/40_bus_interface.md R220). -/
theorem exec_wrCcr_keeps {d : Word} {s t : State} (h : exec (.wrCcr d) s = .next t) :
    t.filt = s.filt ∧ (s.ctrl.upden = true → t.ccr = s.ccr) := by
  obtain rfl := Host.Outcome.next.inj h
  cases hupden : s.ctrl.upden <;> simp

/-- The value a pass writes to CCR is at most ARR (spec/43_filter_mapper.md R336). -/
theorem State.commit_ccr_le (s : State) (m : Nat) : (s.commit m).ccr.toNat ≤ s.arr.toNat := by
  obtain ⟨-, hduty, hccr⟩ := s.commit_values m
  rw [hccr, hduty]
  exact dutyMap_le (clampR_le m)

theorem State.finishPass_ccr_le (s : State) : s.finishPass.ccr.toNat ≤ s.arr.toNat := s.commit_ccr_le _

theorem State.directPass_ccr_le (s : State) : s.directPass.ccr.toNat ≤ s.arr.toNat :=
  State.commit_ccr_le (State.consumeDR { s with trigp := false }) _

/-- The end of a pass leaves CCR, where it is not enabled, or gives it a value of at most ARR. -/
theorem exec_pass_ccr {i : Instr} {s t : State} (hi : i = .updFinish ∨ i = .updDirect) (h : exec i s = .next t) :
    t.ccr = s.ccr ∨ t.ccr.toNat ≤ s.arr.toNat := by
  obtain rfl | rfl := hi
  · obtain rfl := Host.Outcome.next.inj h
    split
    · exact .inr s.finishPass_ccr_le
    · exact .inl rfl
  · obtain rfl := Host.Outcome.next.inj h
    split
    · exact .inr s.directPass_ccr_le
    · exact .inl rfl

/-- Settles O50: the operations' frame, the write of CCR, and the mapper's bound at the end of a pass. -/
theorem onlyTheNotifierWritesTheCompareRegister : Obligations.OnlyTheNotifierWritesTheCompareRegister := by
  intro i s t h
  refine ⟨fun hccr => ?_, fun hfilt => ?_, fun hi hccr => (exec_pass_ccr hi h).resolve_left hccr⟩
  · obtain hsame | hi | hi | hi | ⟨d, rfl⟩ := exec_sameCompare h
    · exact absurd hsame.1 hccr
    · exact .inl hi
    · exact .inr (.inl hi)
    · exact .inr (.inr (.inl hi))
    · obtain ⟨-, howned⟩ := exec_wrCcr_keeps h
      exact .inr (.inr (.inr ⟨d, rfl, Bool.eq_false_iff.mpr fun hupden => hccr (howned hupden)⟩))
  · obtain hsame | hi | hi | hi | ⟨d, rfl⟩ := exec_sameCompare h
    · exact absurd hsame.2 hfilt
    · exact .inl hi
    · exact .inr (.inl hi)
    · exact .inr (.inr hi)
    · exact absurd (exec_wrCcr_keeps h).1 hfilt

end Sys2Proof.Machine
end

section
/-! PROOFS. The encoding (spec/30_encoding.md): the forms of a command word (R147 to R150), the rows of the opcode table (R148), the forms
that are refused (R150), and the events that are not enabled (R144). -/

namespace Sys2Proof

/-! ### The forms of a command word -/

/-- Which operation a command word spells, by the bits that select its row (R147, R149, R150). -/
inductive BusForm (cmd : BitVec 16) (d : Word) : Instr → Prop
  | z1xx (h15 : cmd.getLsbD 15) : BusForm cmd d (.refusedZ1xx (cmd.extractLsb' 0 15))
  | z01x (h15 : ¬ cmd.getLsbD 15) (h14 : cmd.getLsbD 14) : BusForm cmd d (.refusedZ01x (cmd.extractLsb' 0 14))
  | z001 (h15 : ¬ cmd.getLsbD 15) (h14 : ¬ cmd.getLsbD 14) (h13 : cmd.getLsbD 13) :
      BusForm cmd d (.refusedZ001 (cmd.extractLsb' 0 13))
  | sz11 (hz : cmd.extractLsb' 13 3 = 0) (h11 : cmd.getLsbD 11) (h10 : cmd.getLsbD 10) :
      BusForm cmd d (.refusedSz11 (cmd.getLsbD 12) (cmd.extractLsb' 0 10))
  | oddOffset (hz : cmd.extractLsb' 13 3 = 0) (h11 : cmd.getLsbD 11) (h10 : ¬ cmd.getLsbD 10) (h0 : cmd.getLsbD 0) :
      BusForm cmd d (.oddOffset (cmd.getLsbD 12) (cmd.extractLsb' 1 9) (if cmd.getLsbD 12 then d else 0))
  | twoModFour (hz : cmd.extractLsb' 13 3 = 0) (h11 : cmd.getLsbD 11) (h10 : ¬ cmd.getLsbD 10)
      (h1 : cmd.getLsbD 1) (h0 : ¬ cmd.getLsbD 0) :
      BusForm cmd d (.twoModFour (cmd.getLsbD 12) (cmd.extractLsb' 2 8) (if cmd.getLsbD 12 then d else 0))
  | wordAccess (hz : cmd.extractLsb' 13 3 = 0) (h11 : cmd.getLsbD 11) (h10 : ¬ cmd.getLsbD 10)
      (h1 : ¬ cmd.getLsbD 1) (h0 : ¬ cmd.getLsbD 0) :
      BusForm cmd d (decodeWordAccess (cmd.getLsbD 12) (cmd.extractLsb' 0 10) d)
  | subWord (hz : cmd.extractLsb' 13 3 = 0) (h11 : ¬ cmd.getLsbD 11) :
      BusForm cmd d (.subWord (cmd.getLsbD 12) (cmd.getLsbD 10) (cmd.extractLsb' 0 10) (if cmd.getLsbD 12 then d else 0))

/-- The bits of a field of the command word. -/
theorem field_eq_iff {cmd : BitVec 16} {s n : Nat} {v : BitVec n} :
    cmd.extractLsb' s n = v ↔ ∀ k < n, cmd.getLsbD (s + k) = v.getLsbD k := by
  refine ⟨fun h k hk => by simp [← h, hk], fun h => BitVec.eq_of_getLsbD_eq fun k hk => ?_⟩
  simpa [hk] using h k hk

theorem twoBitField_eq_iff {cmd : BitVec 16} {s : Nat} {v : BitVec 2} :
    cmd.extractLsb' s 2 = v ↔ cmd.getLsbD s = v.getLsbD 0 ∧ cmd.getLsbD (s + 1) = v.getLsbD 1 := by
  simp only [field_eq_iff, Nat.forall_lt_succ_right, Nat.not_lt_zero, false_implies, implies_true, true_and, Nat.add_zero]

theorem z_eq_zero_iff {cmd : BitVec 16} :
    cmd.extractLsb' 13 3 = 0 ↔ ¬ cmd.getLsbD 15 ∧ ¬ cmd.getLsbD 14 ∧ ¬ cmd.getLsbD 13 := by
  simp only [field_eq_iff, Nat.forall_lt_succ_right, Nat.not_lt_zero, false_implies, implies_true, true_and, Nat.add_zero,
    Nat.reduceAdd, BitVec.ofNat_eq_ofNat, BitVec.getLsbD_zero, Bool.not_eq_true]
  tauto

theorem decodeBus_form (cmd : BitVec 16) (d : Word) : BusForm cmd d (decodeBus cmd d) := by
  simp only [decodeBus]
  generalize hdata : (if cmd.getLsbD 12 then d else 0) = data
  split_ifs with h15 h14 h13 h11 h10 h0 h1 <;> subst hdata
  · exact .z1xx h15
  · exact .z01x h15 h14
  · exact .z001 h15 h14 h13
  · exact .sz11 (z_eq_zero_iff.mpr ⟨h15, h14, h13⟩) h11 h10
  · exact .oddOffset (z_eq_zero_iff.mpr ⟨h15, h14, h13⟩) h11 h10 h0
  · exact .twoModFour (z_eq_zero_iff.mpr ⟨h15, h14, h13⟩) h11 h10 h1 h0
  · exact .wordAccess (z_eq_zero_iff.mpr ⟨h15, h14, h13⟩) h11 h10 h1 h0
  · exact .subWord (z_eq_zero_iff.mpr ⟨h15, h14, h13⟩) h11

/-! ### What decodes -/

theorem decodeWordAccess_wellFormed (w : Bool) (off : BitVec 10) (d : Word) : (decodeWordAccess w off d).wellFormed = true := by
  unfold decodeWordAccess
  split
  case h_29 => split_ifs <;> rfl
  all_goals rfl

/-- The data the decoder takes from the bus is 0 beside a read (R141). -/
theorem readCarriesNoData_data (w : Bool) (d : Word) : readCarriesNoData w (if w then d else 0) = true := by
  cases w <;> rfl

theorem BusForm.wellFormed {cmd : BitVec 16} {d : Word} {i : Instr} (h : BusForm cmd d i) : i.wellFormed = true := by
  cases h with
  | z1xx | z01x | z001 | sz11 => rfl
  | oddOffset | twoModFour | subWord => exact readCarriesNoData_data _ d
  | wordAccess => exact decodeWordAccess_wellFormed _ _ d

/-- Every command word decodes, to an operation of its form (R148). -/
theorem decode_bus (cmd : BitVec 16) (d : Word) : ∃ i, decode (.bus cmd d) = .ok i ∧ BusForm cmd d i :=
  ⟨decodeBus cmd d, if_pos (decodeBus_form cmd d).wellFormed, decodeBus_form cmd d⟩

/-! ### The rows of the opcode table -/

/-- A command word with Z = 000 is spelled by its fields (R141). -/
theorem eq_commandWord {cmd : BitVec 16} (hz : cmd.extractLsb' 13 3 = 0) :
    cmd = commandWord (cmd.getLsbD 12) (cmd.extractLsb' 10 2) (cmd.extractLsb' 0 10) := by
  refine BitVec.eq_of_getLsbD_eq fun k hk => ?_
  rw [commandWord_bit]
  split_ifs with hoff hsz hw
  · simp [hoff]
  · simp [show k - 10 < 2 by omega, show 10 + (k - 10) = k by omega]
  · rw [hw]
  · simpa [show 13 + (k - 13) = k by omega] using field_eq_iff.mp hz (k - 13) (by omega)

/-- A word access to an aligned offset below 0x038 is to the row of that register (R147). -/
theorem register_row_applies (w : Bool) {off : BitVec 10} (d : Word) (hlow : off.toNat < 0x038) (halign : off.toNat % 4 = 0) :
    (decodeWordAccess w off d).tableRow.applies (.bus (commandWord w 0b10#2 off) d) = true := by
  obtain ⟨k, hk, rfl⟩ : ∃ k < 14, off = BitVec.ofNat 10 (4 * k) :=
    ⟨off.toNat / 4, by omega, BitVec.eq_of_toNat_eq (by simp; omega)⟩
  interval_cases k <;> cases w <;> rfl

/-- Which operation a word access to a reserved offset is, by the offset's highest bit (R147, R203). -/
inductive ReservedForm (w : Bool) (off : BitVec 10) (d : Word) : Instr → Prop
  | rsv200 (h9 : off.getLsbD 9) :
      ReservedForm w off d (if w then .wrRsv200 (off.extractLsb' 2 7) d else .rdRsv200 (off.extractLsb' 2 7))
  | rsv100 (h9 : ¬ off.getLsbD 9) (h8 : off.getLsbD 8) :
      ReservedForm w off d (if w then .wrRsv100 (off.extractLsb' 2 6) d else .rdRsv100 (off.extractLsb' 2 6))
  | rsv080 (h9 : ¬ off.getLsbD 9) (h8 : ¬ off.getLsbD 8) (h7 : off.getLsbD 7) :
      ReservedForm w off d (if w then .wrRsv080 (off.extractLsb' 2 5) d else .rdRsv080 (off.extractLsb' 2 5))
  | rsv040 (h9 : ¬ off.getLsbD 9) (h8 : ¬ off.getLsbD 8) (h7 : ¬ off.getLsbD 7) (h6 : off.getLsbD 6) :
      ReservedForm w off d (if w then .wrRsv040 (off.extractLsb' 2 4) d else .rdRsv040 (off.extractLsb' 2 4))
  | rsv038 (h9 : ¬ off.getLsbD 9) (h8 : ¬ off.getLsbD 8) (h7 : ¬ off.getLsbD 7) (h6 : ¬ off.getLsbD 6)
      (h543 : off.getLsbD 5 ∧ off.getLsbD 4 ∧ off.getLsbD 3) :
      ReservedForm w off d (if w then .wrRsv038 (off.extractLsb' 2 1) d else .rdRsv038 (off.extractLsb' 2 1))

theorem getLsbD_iff_toNat {off : BitVec 10} {k : Nat} : off.getLsbD k = true ↔ off.toNat / 2 ^ k % 2 = 1 := by
  rw [BitVec.getLsbD, Nat.testBit_eq_decide_div_mod_eq, decide_eq_true_eq]

theorem decodeWordAccess_reserved (w : Bool) {off : BitVec 10} (d : Word) (hhigh : 0x038 ≤ off.toNat) :
    ReservedForm w off d (decodeWordAccess w off d) := by
  unfold decodeWordAccess
  split
  case h_29 =>
    split
    · exact .rsv200 ‹_›
    split
    · exact .rsv100 ‹_› ‹_›
    split
    · exact .rsv080 ‹_› ‹_› ‹_›
    split
    · exact .rsv040 ‹_› ‹_› ‹_› ‹_›
    · next h9 h8 h7 h6 =>
      refine .rsv038 h9 h8 h7 h6 ?_
      simp only [getLsbD_iff_toNat] at *
      omega
  all_goals omega

/-- A word access to an aligned reserved offset is to the row of its form. -/
theorem ReservedForm.row_applies {w : Bool} {off : BitVec 10} {d : Word} {i : Instr} (h : ReservedForm w off d i)
    (h1 : ¬ off.getLsbD 1) (h0 : ¬ off.getLsbD 0) : i.tableRow.applies (.bus (commandWord w 0b10#2 off) d) = true := by
  -- Whichever the form, its row's mask tests the bits its premises give.
  cases h with
  | rsv200 | rsv100 | rsv080 | rsv040 | rsv038 =>
    simp only [Bool.not_eq_true] at *
    cases w
    all_goals
      refine Laws.RowMatch.applies_of_bits _ _ _ _ fun k hk => ?_
      rw [commandWord_bit]
      interval_cases k <;> simp [*, -BitVec.getLsbD_eq_getElem]

/-- A word access to an aligned offset is to a row of R147. -/
theorem decodeWordAccess_row_applies (w : Bool) (off : BitVec 10) (d : Word) (h1 : ¬ off.getLsbD 1) (h0 : ¬ off.getLsbD 0) :
    (decodeWordAccess w off d).tableRow.applies (.bus (commandWord w 0b10#2 off) d) = true := by
  obtain hlow | hhigh := Nat.lt_or_ge off.toNat 0x038
  · simp only [getLsbD_iff_toNat] at h1 h0
    exact register_row_applies w d hlow (by omega)
  · exact (decodeWordAccess_reserved w d hhigh).row_applies h1 h0

/-- A command word falls in the row of its form: the row's mask tests the bits the form's premises give (R148). -/
theorem BusForm.row_applies {cmd : BitVec 16} {d : Word} {i : Instr} (h : BusForm cmd d i) :
    i.tableRow.applies (.bus cmd d) = true := by
  cases h with
  | wordAccess hz h11 h10 h1 h0 =>
    have hsz : cmd.extractLsb' 10 2 = 0b10#2 := twoBitField_eq_iff.mpr (by simp_all)
    have happlies := decodeWordAccess_row_applies (cmd.getLsbD 12) (cmd.extractLsb' 0 10) d
      (by simpa using h1) (by simpa using h0)
    rwa [← hsz, ← eq_commandWord hz] at happlies
  | z1xx h15 =>
    refine Laws.RowMatch.applies_of_bits _ _ _ _ fun k hk => ?_
    interval_cases k <;> simp [h15]
  | z01x | z001 =>
    refine Laws.RowMatch.applies_of_bits _ _ _ _ fun k hk => ?_
    simp only [Bool.not_eq_true] at *
    interval_cases k <;> simp [*, -BitVec.getLsbD_eq_getElem]
  | sz11 hz | oddOffset hz | twoModFour hz | subWord hz =>
    refine Laws.RowMatch.applies_of_bits _ _ _ _ fun k hk => ?_
    simp only [z_eq_zero_iff, Bool.not_eq_true] at *
    interval_cases k <;> simp [*, -BitVec.getLsbD_eq_getElem]

theorem exists_code_eq (code : BitVec 4) : ∃ c < 16, code = BitVec.ofNat 4 c :=
  ⟨code.toNat, code.isLt, by simp⟩

theorem decodeEvt_row_applies (code : BitVec 4) (x : Nat) (a : Word) (n : Nat) (v : Word) :
    (decodeEvt code x a n v).tableRow.applies (.evt code x a n v) = true := by
  obtain ⟨c, hc, rfl⟩ := exists_code_eq code
  interval_cases c <;> rfl

/-- The row of the operation a label decodes to applies to the label (R148). -/
theorem decodeRow_row_applies (l : Label) : (decodeRow l).tableRow.applies l = true := by
  cases l with
  | bus cmd d => exact (decodeBus_form cmd d).row_applies
  | evt code x a n v => exact decodeEvt_row_applies code x a n v

/-- Two rows are apart: they are of different spaces, or a bit of both masks has different values in them. -/
def TableRow.apart : TableRow → TableRow → Bool
  | .bus mask value, .bus mask' value' => mask &&& mask' &&& (value ^^^ value') != 0
  | .evt mask value, .evt mask' value' => mask &&& mask' &&& (value ^^^ value') != 0
  | _, _ => true

/-- The two values one word has under two masks agree in the bits of both. -/
theorem masked_values_agree {n : Nat} {x mask value mask' value' : BitVec n} (h : (x &&& mask == value) = true)
    (h' : (x &&& mask' == value') = true) : (mask &&& mask' &&& (value ^^^ value') != 0) = false := by
  obtain rfl := eq_of_beq h
  obtain rfl := eq_of_beq h'
  have hzero : mask &&& mask' &&& ((x &&& mask) ^^^ (x &&& mask')) = 0 := by ext k hk; grind
  rw [hzero, bne_self_eq_false]

theorem TableRow.not_apart_of_applies {r r' : TableRow} {l : Label} (h : r.applies l = true) (h' : r'.applies l = true) :
    r.apart r' = false := by
  cases l with
  | bus cmd d =>
    cases r with
    | evt => cases h
    | bus mask value =>
      cases r' with
      | evt => cases h'
      | bus mask' value' => exact masked_values_agree h h'
  | evt code x a n v =>
    cases r with
    | bus => cases h
    | evt mask value =>
      cases r' with
      | bus => cases h'
      | evt mask' value' => exact masked_values_agree h h'

/-- One operation of each row, in the table's order. -/
def rowOperations : List Instr :=
  [.rdCtrl, .wrCtrl 0, .rdAdccfg, .wrAdccfg 0, .rdRbase, .wrRbase 0, .rdRlen, .wrRlen 0, .rdArr, .wrArr 0, .rdPsc, .wrPsc 0,
   .rdCcr, .wrCcr 0, .rdCnt, .wrCnt 0, .rdSr, .wrSr 0, .rdIer, .wrIer 0, .rdDr, .wrDr 0, .rdStat, .wrStat 0, .rdFilt, .wrFilt 0,
   .rdOvrcnt, .wrOvrcnt 0, .rdRsv038 0, .rdRsv040 0, .rdRsv080 0, .rdRsv100 0, .rdRsv200 0, .wrRsv038 0 0, .wrRsv040 0 0,
   .wrRsv080 0 0, .wrRsv100 0 0, .wrRsv200 0 0, .subWord false false 0 0, .oddOffset false 0 0, .twoModFour false 0 0,
   .refusedZ1xx 0, .refusedZ01x 0, .refusedZ001 0, .refusedSz11 false 0, .adcEoc 0, .dmaXfer, .updStart, .updDirect, .updRead,
   .updFinish, .timTick, .reset, .hostMemRd 0 1, .hostMemWr 0 1 0, .refusedEvt0, .refusedEvtB, .refusedEvtCF 0]

def tableRows : List TableRow := rowOperations.map Instr.tableRow

theorem tableRow_mem (i : Instr) : i.tableRow ∈ tableRows :=
  List.contains_iff_mem.mp (by cases i <;> rfl)

theorem tableRows_apart : tableRows.Pairwise fun r r' => r.apart r' = true := by decide

theorem TableRow.apart_comm (r r' : TableRow) : r.apart r' = r'.apart r := by
  cases r <;> cases r' <;> simp only [TableRow.apart, BitVec.and_comm, BitVec.xor_comm]

/-- No label falls in two rows (R148). -/
theorem tableRow_unique {i j : Instr} {l : Label} (hi : i.tableRow.applies l = true) (hj : j.tableRow.applies l = true) :
    i.tableRow = j.tableRow := by
  by_contra hne
  have : Std.Symm fun r r' : TableRow => r.apart r' = true := ⟨fun r r' h => (TableRow.apart_comm r' r).trans h⟩
  have hapart := tableRows_apart.forall (tableRow_mem i) (tableRow_mem j) hne
  rw [TableRow.not_apart_of_applies hi hj] at hapart
  cases hapart

/-- Settles O2: the row of the decoded operation applies, and no two rows do. -/
theorem everyLabelFallsInExactlyOneTableRow : Obligations.EveryLabelFallsInExactlyOneTableRow := by
  refine fun l i => ⟨fun h => tableRow_unique h (decodeRow_row_applies l), fun h => ?_⟩
  rw [h]
  exact decodeRow_row_applies l

end Sys2Proof

namespace Sys2Proof.Machine

section
variable (s : State) {cmd : BitVec 16} (d : Word) (x : Nat) (a : Word) (n : Nat) (v : Word)

/-! ### The forms that spell no operation (R150) -/

theorem reservedZ_refused (hz : cmd.extractLsb' 13 3 ≠ 0) :
    ∃ i, decode (.bus cmd d) = .ok i ∧ exec i s = .refused .reservedZ := by
  obtain ⟨i, hdec, hform⟩ := decode_bus cmd d
  refine ⟨i, hdec, ?_⟩
  cases hform with
  | z1xx | z01x | z001 => rfl
  | sz11 hzero | oddOffset hzero | twoModFour hzero | wordAccess hzero | subWord hzero => exact absurd hzero hz

theorem reservedSize_refused (hz : cmd.extractLsb' 13 3 = 0) (hsz : cmd.extractLsb' 10 2 = 3) :
    ∃ i, decode (.bus cmd d) = .ok i ∧ exec i s = .refused .reservedSize := by
  obtain ⟨i, hdec, hform⟩ := decode_bus cmd d
  obtain ⟨z15, z14, z13⟩ := z_eq_zero_iff.mp hz
  obtain ⟨sz10, sz11⟩ := twoBitField_eq_iff.mp hsz
  refine ⟨i, hdec, ?_⟩
  cases hform with
  | sz11 => rfl
  | z1xx h15 => exact absurd h15 z15
  | z01x _ h14 => exact absurd h14 z14
  | z001 _ _ h13 => exact absurd h13 z13
  | oddOffset _ _ h10 | twoModFour _ _ h10 | wordAccess _ _ h10 => exact absurd sz10 h10
  | subWord _ h11 => exact absurd sz11 h11

theorem reservedEvent_refused {e : BitVec 4} (he : e = 0 ∨ 0xB ≤ e) :
    ∃ i, decode (.evt e x a n v) = .ok i ∧ exec i s = .refused .reservedEvent := by
  obtain rfl | he := he
  · exact ⟨.refusedEvt0, rfl, rfl⟩
  · obtain ⟨c, hc, rfl⟩ := exists_code_eq e
    have hlow : 0xB ≤ c := by simpa [BitVec.le_def, Nat.mod_eq_of_lt hc] using he
    interval_cases c <;> exact ⟨_, rfl, rfl⟩

theorem sampleOutOfRange_refused (hx : 2 ^ 12 ≤ x) :
    decode (.evt 0x1 x a n v) = .error .sampleOutOfRange ∧ exec (.adcEoc x) s = .refused .sampleOutOfRange := by
  have hrange : ¬ sampleInRange x = true := by simpa [sampleInRange] using hx
  exact ⟨if_neg hrange, if_neg hrange⟩

theorem badAccessSize_refused (hsize : ¬ accessSizeOk n = true) :
    decode (.evt 0x9 x a n v) = .error .badAccessSize ∧ exec (.hostMemRd a n) s = .refused .badAccessSize ∧
    decode (.evt 0xA x a n v) = .error .badAccessSize ∧ exec (.hostMemWr a n v) s = .refused .badAccessSize :=
  ⟨if_neg hsize, if_neg hsize, if_neg hsize, if_neg hsize⟩

/-! ### The accesses that answer BusError (R149) -/

theorem malformed_busError (hz : cmd.extractLsb' 13 3 = 0)
    (hmal : cmd.extractLsb' 10 2 = 0 ∨ cmd.extractLsb' 10 2 = 1 ∨ (cmd.extractLsb' 10 2 = 2 ∧ cmd.extractLsb' 0 2 ≠ 0)) :
    ∃ i, decode (.bus cmd d) = .ok i ∧ exec i s = .next { s with resp := .busError } := by
  obtain ⟨i, hdec, hform⟩ := decode_bus cmd d
  obtain ⟨z15, z14, z13⟩ := z_eq_zero_iff.mp hz
  simp only [twoBitField_eq_iff, ne_eq] at hmal
  refine ⟨i, hdec, ?_⟩
  cases hform with
  | subWord | oddOffset | twoModFour => rfl
  | z1xx h15 => exact absurd h15 z15
  | z01x _ h14 => exact absurd h14 z14
  | z001 _ _ h13 => exact absurd h13 z13
  | sz11 | wordAccess => simp_all

/-! ### Events that are not enabled (R144) -/

/-- An event whose condition does not hold leaves the state (assumption 2). -/
theorem next_ite_of_not_enabled {b : Bool} {s t : State} (h : b = false) :
    (.next (if b then t else s) : Host.Outcome State Fault Refusal) = .next s := by
  rw [h]
  rfl

theorem exec_of_not_enabled {s : State} {i : Instr} (hwf : i.wellFormed = true) (h : s.enabledNow i = false) :
    exec i s = .next s := by
  cases i with
  | adcEoc x => exact (if_pos hwf).trans (next_ite_of_not_enabled h)
  | dmaXfer | updStart | updDirect | updRead | updFinish | timTick => exact next_ite_of_not_enabled h
  -- Every other operation is enabled in every state.
  | _ => cases h

end

/-- Settles O4, form by form. -/
theorem refusedFormsHaveNoStep : Obligations.RefusedFormsHaveNoStep :=
  ⟨fun _ d s => reservedZ_refused s d, fun _ d s => reservedSize_refused s d,
    fun _ x a n v s => reservedEvent_refused s x a n v, fun x a n v s => sampleOutOfRange_refused s x a n v,
    fun x a n v s h1 h2 h4 => badAccessSize_refused s x a n v (by simp [accessSizeOk_iff, h1, h2, h4]),
    fun _ _ _ _ _ _ _ => ⟨rfl, rfl, rfl, rfl, rfl, rfl, rfl⟩⟩

/-- Settles O25: a malformed command word decodes to one of the three bus-error forms, and each answers BusError. -/
theorem malformedAccessesAnswerBusError : Obligations.MalformedAccessesAnswerBusError :=
  ⟨fun _ d s => malformed_busError s d, fun _ _ _ _ _ _ _ => ⟨rfl, rfl, rfl⟩⟩

/-- Settles O26, event by event. -/
theorem eventsNotEnabledChangeNothing : Obligations.EventsNotEnabledChangeNothing :=
  fun _ _ => exec_of_not_enabled

end Sys2Proof.Machine
end

section
/-! PROOFS. The bus interface (spec/40_bus_interface.md): the words the registers read as (R207 to R233), the fields a write carries and
the locks it is under (R205, R206, R208 to R234), and the reserved offsets (R203). -/

namespace Sys2Proof

/-! ### Words from bits and fields -/

/-- A one-bit field at position `n` of a word. -/
theorem bit_shift_getLsbD (b : Bool) {n : Nat} (hn : n < 32) (k : Nat) : (bit b <<< n).getLsbD k = (b && decide (k = n)) := by
  cases b with
  | false => simp [bit]
  | true =>
    show (BitVec.twoPow 32 n).getLsbD k = _
    rw [BitVec.getLsbD_twoPow]
    simp [hn, eq_comm]

theorem bit_shift_toNat (b : Bool) {n : Nat} (hn : n < 32) : (bit b <<< n).toNat = 2 ^ n * b.toNat := by
  cases b with
  | false => simp [bit]
  | true => exact (BitVec.toNat_twoPow_of_lt hn).trans (Nat.mul_one _).symm

/-- A one-bit field above all bits of a word adds its weight. -/
theorem or_bit_shift_toNat {v : Word} {m n : Nat} (hv : v.toNat = m) (hm : m < 2 ^ n) (b : Bool) (hn : n < 32 := by decide) :
    (v ||| bit b <<< n).toNat = m + 2 ^ n * b.toNat := by
  subst hv
  rw [BitVec.toNat_or, bit_shift_toNat b hn, Nat.or_comm, ← Nat.two_pow_add_eq_or_of_lt hm, Nat.add_comm]

theorem append_toNat {m n : Nat} (hi : BitVec m) (lo : BitVec n) : (hi ++ lo).toNat = hi.toNat * 2 ^ n + lo.toNat := by
  rw [BitVec.toNat_append, ← Nat.shiftLeft_add_eq_or_of_lt lo.isLt, Nat.shiftLeft_eq]

/-! ### Word accesses to reserved offsets (R203) -/

section reserved
variable (w : Bool) {off : BitVec 10} (d : Word)

/-- An aligned word access is decoded by its offset (R147). -/
theorem decode_wordAccess (halign : off.toNat % 4 = 0) :
    decode (.bus (commandWord w 0b10#2 off) d) = .ok (decodeWordAccess w off d) := by
  have h0 : off.getLsbD 0 = false := by rw [← Bool.not_eq_true, getLsbD_iff_toNat]; omega
  have h1 : off.getLsbD 1 = false := by rw [← Bool.not_eq_true, getLsbD_iff_toNat]; omega
  have hoff : (commandWord w 0b10#2 off).extractLsb' 0 10 = off := by
    refine BitVec.eq_of_getLsbD_eq fun k hk => ?_
    simp [commandWord_bit, hk]
  have hrow : decodeBus (commandWord w 0b10#2 off) d = decodeWordAccess w off d := by
    simp [decodeBus, commandWord_bit, hoff, h0, h1, -BitVec.getLsbD_eq_getElem]
  simp only [decode, decodeRow, hrow, decodeWordAccess_wellFormed, if_true]

/-- The command word of a word access is its row's constant with the offset in bits 9:0 (R141). -/
theorem wordAccess_eq_or (off : BitVec 10) :
    commandWord w 0b10#2 off = (if w then 0x1800 else 0x0800) ||| off.setWidth 16 := by
  refine BitVec.eq_of_getLsbD_eq fun k hk => ?_
  rw [commandWord_bit]
  cases w <;> interval_cases k <;> simp [-BitVec.getLsbD_eq_getElem]

end reserved

end Sys2Proof

namespace Sys2Proof.Machine

theorem exec_reserved_read {off : BitVec 10} {d : Word} {i : Instr} (h : ReservedForm false off d i) (s : State) :
    exec i s = .next (s.answer 0) := by
  cases h <;> rfl

theorem exec_reserved_write {off : BitVec 10} {d : Word} {i : Instr} (h : ReservedForm true off d i) (s : State) :
    exec i s = .next s.done := by
  cases h <;> rfl

/-- Settles O24: an aligned word decodes to the form of its reserved offset, and each form answers alike. -/
theorem reservedOffsetsReadZeroAndIgnoreWrites : Obligations.ReservedOffsetsReadZeroAndIgnoreWrites := by
  refine ⟨fun off d s hhigh halign => ⟨?_, ?_⟩, fun s d a b c e f => ⟨⟨rfl, rfl, rfl, rfl, rfl⟩, rfl, rfl, rfl, rfl, rfl⟩⟩
  · have hread := decode_wordAccess false d halign
    rw [wordAccess_eq_or] at hread
    exact ⟨_, hread, exec_reserved_read (decodeWordAccess_reserved false d hhigh) s⟩
  · have hwrite := decode_wordAccess true d halign
    rw [wordAccess_eq_or] at hwrite
    exact ⟨_, hwrite, exec_reserved_write (decodeWordAccess_reserved true d hhigh) s⟩

/-! ### Register reads -/

section words
variable (s : State)

/-- `RD CTRL` bit by bit (R207). -/
theorem State.ctrlWord_getLsbD (k : Nat) : s.ctrlWord.getLsbD k =
    (s.ctrl.aden && decide (k = 0) || s.ctrl.mode && decide (k = 1) || s.ctrl.dmaen && decide (k = 2)
      || s.ctrl.pp && decide (k = 3) || s.ctrl.timen && decide (k = 4) || s.ctrl.cms && decide (k = 5)
      || s.ctrl.pol && decide (k = 6) || s.ctrl.oe && decide (k = 7) || s.ctrl.upden && decide (k = 8)) := by
  have haden : (bit s.ctrl.aden).getLsbD k = (s.ctrl.aden && decide (k = 0)) := by
    simpa using bit_shift_getLsbD s.ctrl.aden (n := 0) (by omega) k
  simp only [State.ctrlWord, BitVec.getLsbD_or, haden, bit_shift_getLsbD, Nat.reduceLT]

/-- The word of CTRL reads back as its fields. -/
theorem Ctrl.ofWord_ctrlWord : Ctrl.ofWord s.ctrlWord = s.ctrl := by
  apply Ctrl.ext <;> simp [Ctrl.ofWord, State.ctrlWord_getLsbD, -BitVec.getLsbD_eq_getElem]

theorem State.ctrlWord_high {k : Nat} (hk : 9 ≤ k) : s.ctrlWord.getLsbD k = false := by
  have habove : ∀ j, j < 9 → k ≠ j := by omega
  simp [State.ctrlWord_getLsbD, habove, -BitVec.getLsbD_eq_getElem]

/-- `RD ADCCFG` as a number (R209). -/
theorem State.adccfgWord_toNat : s.adccfgWord.toNat = s.adccfg.smp.toNat * 2 ^ 8 + s.adccfg.chsel.toNat := by
  rw [State.adccfgWord, BitVec.toNat_setWidth_of_le (by omega), append_toNat, append_toNat, BitVec.toNat_ofNat]
  omega

theorem State.rlenWord_toNat : s.rlenWord.toNat = s.rlen.toNat := BitVec.toNat_setWidth_of_le (by omega)
theorem halfWord_toNat (h : Half) : (halfWord h).toNat = h.toNat := BitVec.toNat_setWidth_of_le (by omega)
theorem State.srWord_toNat : s.srWord.toNat = s.sr.toNat := BitVec.toNat_setWidth_of_le (by omega)
theorem State.ierWord_toNat : s.ierWord.toNat = s.ier.toNat := BitVec.toNat_setWidth_of_le (by omega)
theorem State.drWord_toNat : s.drWord.toNat = s.dr.toNat := BitVec.toNat_setWidth_of_le (by omega)

/-- `RD FILT` as a number (R231). -/
theorem State.filtWord_toNat : s.filtWord.toNat = s.filt.duty.toNat * 2 ^ 16 + s.filt.fval.toNat := by
  show (s.filt.duty ++ 0#4 ++ s.filt.fval).toNat = _
  rw [append_toNat, append_toNat, BitVec.toNat_ofNat]
  omega

/-- `RD STAT` as a number (R229): each bit lies above the word of those before it. -/
theorem State.statWord_toNat (hwidx : s.widx < 2 ^ 10) : s.statWord.toNat =
    s.widx + 2 ^ 16 * (decide (s.ustate = .updating)).toNat + 2 ^ 17 * s.trigp.toNat + 2 ^ 18 * (decide (s.tdir = .down)).toNat
      + 2 ^ 19 * s.unc.toNat + 2 ^ 20 * s.dreq.toNat + 2 ^ 21 * (decide (s.ubase ≠ 0)).toNat := by
  have hlow : ((BitVec.ofNat 10 s.widx).setWidth 32).toNat = s.widx := by
    rw [BitVec.toNat_setWidth_of_le (by omega), BitVec.toNat_ofNat, Nat.mod_eq_of_lt hwidx]
  have hubusy := (decide (s.ustate = .updating)).toNat_le
  have htrigp := s.trigp.toNat_le
  have htdir := (decide (s.tdir = .down)).toNat_le
  have hunc := s.unc.toNat_le
  have hdreq := s.dreq.toNat_le
  simp only [State.statWord, bne, beq_eq_decide, ne_eq, decide_not]
  refine or_bit_shift_toNat (or_bit_shift_toNat (or_bit_shift_toNat (or_bit_shift_toNat (or_bit_shift_toNat
    (or_bit_shift_toNat hlow ?_ _) ?_ _) ?_ _) ?_ _) ?_ _) ?_ _ <;> omega

/-- The read of DR consumes nothing where nothing is unconsumed (R227). -/
theorem State.consumeDR_eq_self (hunc : s.unc = false) (heoc : s.sr.getLsbD 0 = false) : s.consumeDR = s := by
  have hsr : s.consumeDR.sr = s.sr := by
    refine BitVec.eq_of_getLsbD_eq fun k _ => ?_
    rw [State.consumeDR_bit]
    by_cases hk : k = 0 <;> simp [hk, heoc, -BitVec.getLsbD_eq_getElem]
  show { s with sr := s.consumeDR.sr, unc := false } = s
  rw [hsr, ← hunc]

end words

/-- Settles O7: the word has the nine fields, and nothing above them. -/
theorem readCtrlAnswersItsFields : Obligations.ReadCtrlAnswersItsFields := by
  intro s d
  have hfields := Ctrl.ofWord_ctrlWord s
  refine ⟨rfl, s.ctrlWord, rfl, congrArg Ctrl.aden hfields, congrArg Ctrl.mode hfields, congrArg Ctrl.dmaen hfields,
    congrArg Ctrl.pp hfields, congrArg Ctrl.timen hfields, congrArg Ctrl.cms hfields, congrArg Ctrl.pol hfields,
    congrArg Ctrl.oe hfields, congrArg Ctrl.upden hfields, fun _ => s.ctrlWord_high, ?_⟩
  rintro rfl
  rfl

/-- Settles O8, register by register. -/
theorem readConfigurationAnswersItsFields : Obligations.ReadConfigurationAnswersItsFields := by
  refine fun s d => ⟨⟨rfl, _, rfl, s.adccfgWord_toNat, ?_⟩, ⟨rfl, rfl, rfl⟩, ⟨rfl, _, rfl, s.rlenWord_toNat, ?_⟩,
    ⟨rfl, _, rfl, halfWord_toNat s.arr, ?_⟩, rfl, _, rfl, halfWord_toNat s.psc, ?_⟩
  -- The four words of the reset state.
  all_goals
    rintro rfl
    rfl

/-- Settles O9, register by register. -/
theorem readStatusAnswersItsValue : Obligations.ReadStatusAnswersItsValue :=
  fun s _ => ⟨⟨rfl, _, rfl, halfWord_toNat s.ccr⟩, ⟨rfl, _, rfl, halfWord_toNat s.cnt⟩, ⟨rfl, _, rfl, s.srWord_toNat⟩,
    ⟨rfl, _, rfl, s.ierWord_toNat⟩, rfl, _, rfl, halfWord_toNat s.ovrcnt⟩

/-- Settles O10, by the value of the word. -/
theorem readStatAnswersTheHiddenState : Obligations.ReadStatAnswersTheHiddenState :=
  fun s _ hwidx => ⟨rfl, _, rfl, s.statWord_toNat hwidx⟩

/-- Settles O11, by the value of the word. -/
theorem readFiltAnswersTheLastPass : Obligations.ReadFiltAnswersTheLastPass :=
  fun s _ => ⟨rfl, _, rfl, s.filtWord_toNat⟩

/-- Settles O12: the read answers DR and is otherwise `consumeDR()`. -/
theorem readDrConsumesTheSample : Obligations.ReadDrConsumesTheSample := by
  refine fun s d => ⟨rfl, _, exec_rdDr s, ⟨_, rfl, s.drWord_toNat⟩, rfl, ?_, fun k hk => ?_, rfl, fun hunc heoc => ?_⟩
  · rw [State.answer_sr, State.consumeDR_bit]
    simp
  · rw [State.answer_sr, State.consumeDR_bit]
    simp [hk]
  · rw [State.consumeDR_eq_self s hunc heoc]
    rfl

/-! ### The fields a write carries -/

theorem rlenField_toNat (d : Word) : (rlenField d).toNat = d.toNat % 2 ^ 9 := BitVec.extractLsb'_toNat 0 9 d
theorem halfField_toNat (d : Word) : (halfField d).toNat = d.toNat % 2 ^ 16 := BitVec.extractLsb'_toNat 0 16 d
theorem flagField_toNat (d : Word) : (flagField d).toNat = d.toNat % 2 ^ 11 := BitVec.extractLsb'_toNat 0 11 d

theorem flagField_getLsbD (d : Word) {k : Nat} (hk : k < 11) : (flagField d).getLsbD k = d.getLsbD k := by
  simp [flagField, hk]

/-! ### Writes with no lock -/

/-- Settles O21: each is acknowledged and does nothing more. -/
theorem writesToReadOnlyRegistersAreIgnored : Obligations.WritesToReadOnlyRegistersAreIgnored :=
  fun _ _ => ⟨⟨rfl, rfl⟩, ⟨rfl, rfl⟩, ⟨rfl, rfl⟩, rfl, rfl⟩

/-- Settles O22: SR loses the flags of the written field. -/
theorem writeSrClearsTheFlagsWrittenAsOne : Obligations.WriteSrClearsTheFlagsWrittenAsOne := by
  refine fun s d => ⟨rfl, _, rfl, fun k hk => ?_, rfl, rfl⟩
  rw [State.done_sr, State.clearFlags_sr, BitVec.getLsbD_and, BitVec.getLsbD_not, flagField_getLsbD d hk, decide_eq_true hk,
    Bool.true_and]

/-- Settles O23: IER takes its field, OVRCNT takes 0. -/
theorem writeIerAndOvrcnt : Obligations.WriteIerAndOvrcnt :=
  fun _ d => ⟨⟨rfl, _, rfl, flagField_toNat d⟩, rfl, rfl⟩

theorem exec_wrCcr (s : State) (d : Word) : exec (.wrCcr d) s =
    .next (if s.ctrl.upden then s.setFlag .cfge else { s with ccr := halfField d }).done := rfl

/-- Settles O20, by the owner of CCR. -/
theorem writeCcrOnlyWithoutTheUpdateUnit : Obligations.WriteCcrOnlyWithoutTheUpdateUnit := by
  refine fun s d => ⟨rfl, fun hupden => ?_, fun hupden => ⟨_, ?_, halfField_toNat d⟩⟩
  · rw [exec_wrCcr, if_pos hupden]
    rfl
  · rw [exec_wrCcr, if_neg (by simp [hupden])]
    rfl

/-! ### Writes under a lock (R205) -/

theorem lockedField_of_locked {α : Type} {locked : Bool} {old new : α} (h : locked = true) : lockedField locked old new = old :=
  if_pos h

theorem lockedField_of_unlocked {α : Type} {locked : Bool} {old new : α} (h : ¬ locked = true) :
    lockedField locked old new = new :=
  if_neg h

theorem lockViolated_iff {α : Type} [DecidableEq α] {locked : Bool} {old new : α} :
    lockViolated locked old new = true ↔ locked = true ∧ new ≠ old := by
  simp [lockViolated]

/-- What a write of the value `new` through `set` answers, to a field of the value `old` under a lock. -/
def lockedWrite {α : Type} [DecidableEq α] (set : α → State) (locked : Bool) (old new : α) : Host.Outcome State Fault Refusal :=
  .next ((set (lockedField locked old new)).setFlagIf (lockViolated locked old new) .cfge).done

section lockedWrite
variable {α : Type} [DecidableEq α] (set : α → State) {locked : Bool} {old new : α}

theorem lockedWrite_of_unlocked (h : locked = false) : lockedWrite set locked old new = .next (set new).done := by
  subst h
  rfl

/-- Under a lock, writing the value the field has is no violation. -/
theorem lockedWrite_of_eq (h : locked = true) (heq : new = old) : lockedWrite set locked old new = .next (set old).done := by
  subst h heq
  simp [lockedWrite, lockedField, lockViolated, State.setFlagIf]

/-- Under a lock, another value is turned away with CFGE. -/
theorem lockedWrite_of_ne (h : locked = true) (hne : new ≠ old) :
    lockedWrite set locked old new = .next ((set old).setFlag .cfge).done := by
  subst h
  simp [lockedWrite, lockedField, lockViolated, hne, State.setFlagIf]

end lockedWrite

theorem lockedField_adccfg (locked : Bool) (old new : AdcCfg) : lockedField locked old new =
    { chsel := lockedField locked old.chsel new.chsel, smp := lockedField locked old.smp new.smp } := by
  cases locked <;> rfl

theorem lockViolated_adccfg (locked : Bool) (old new : AdcCfg) : lockViolated locked old new =
    (lockViolated locked old.chsel new.chsel || lockViolated locked old.smp new.smp) := by
  obtain ⟨chsel, smp⟩ := new
  obtain ⟨chsel', smp'⟩ := old
  cases locked <;> simp [lockViolated]

section locks
variable (s : State) (d : Word) (w : Ctrl)

/-! The writes of R210 to R218, each through its one lock. -/

theorem exec_wrRbase : exec (.wrRbase d) s =
    lockedWrite (fun v => { s with rbase := v }) s.dmaLocked s.rbase d := rfl
theorem exec_wrRlen : exec (.wrRlen d) s =
    lockedWrite (fun v => { s with rlen := v }) s.dmaLocked s.rlen (rlenField d) := rfl
theorem exec_wrArr : exec (.wrArr d) s =
    lockedWrite (fun v => { s with arr := v }) s.timLocked s.arr (halfField d) := rfl
theorem exec_wrPsc : exec (.wrPsc d) s =
    lockedWrite (fun v => { s with psc := v }) s.timLocked s.psc (halfField d) := rfl

/-- The two fields of ADCCFG are under one lock, and so are written as one. -/
theorem exec_wrAdccfg : exec (.wrAdccfg d) s =
    lockedWrite (fun v => { s with adccfg := v }) s.adcLocked s.adccfg (AdcCfg.ofWord d) := by
  rw [lockedWrite, lockedField_adccfg, lockViolated_adccfg]
  rfl

/-- The fields a write of ADCCFG carries, as numbers (R210). -/
theorem AdcCfg.ofWord_eq_iff {c : AdcCfg} :
    AdcCfg.ofWord d = c ↔ d.toNat % 2 ^ 5 = c.chsel.toNat ∧ d.toNat / 2 ^ 8 % 2 ^ 3 = c.smp.toNat := by
  obtain ⟨chsel, smp⟩ := c
  rw [AdcCfg.ofWord, AdcCfg.mk.injEq, ← BitVec.toNat_inj, ← BitVec.toNat_inj, BitVec.extractLsb'_toNat, BitVec.extractLsb'_toNat,
    Nat.shiftRight_zero, Nat.shiftRight_eq_div_pow]

/-! The locks of R206. -/

theorem State.dmaLocked_iff : s.dmaLocked = true ↔ s.ctrl.dmaen = true ∨ s.ustate = .updating ∨ s.trigp = true := by
  simp [State.dmaLocked, State.passLive]
theorem State.modeLocked_iff : s.modeLocked w = true ↔
    (s.ctrl.aden = true ∧ w.aden = true) ∨ s.ustate = .updating ∨ s.trigp = true := by
  simp [State.modeLocked, State.passLive]
theorem State.ppLocked_iff : s.ppLocked w = true ↔
    (s.ctrl.dmaen = true ∧ w.dmaen = true) ∨ s.ustate = .updating ∨ s.trigp = true := by
  simp [State.ppLocked, State.passLive]
theorem State.timFieldsLocked_iff : s.timFieldsLocked w = true ↔ s.ctrl.timen = true ∧ w.timen = true := by
  simp [State.timFieldsLocked]

end locks

/-- Settles O17, with the two fields written as one. -/
theorem writeAdccfgUnderTheAdcLock : Obligations.WriteAdccfgUnderTheAdcLock := by
  intro s d
  have hfields := AdcCfg.ofWord_eq_iff d (c := s.adccfg)
  obtain ⟨hchsel, hsmp⟩ := (AdcCfg.ofWord_eq_iff d).mp rfl
  refine ⟨rfl, fun hfree => ⟨_, _, ?_, hchsel.symm, hsmp.symm⟩, fun hlock hch hsm => ?_, fun hlock hne => ?_⟩
  · exact (exec_wrAdccfg s d).trans (lockedWrite_of_unlocked _ hfree)
  · exact (exec_wrAdccfg s d).trans (lockedWrite_of_eq _ hlock (hfields.mpr ⟨hch, hsm⟩))
  · exact (exec_wrAdccfg s d).trans (lockedWrite_of_ne _ hlock (mt hfields.mp (by tauto)))

/-- Settles O18: both registers are under the DMA lock. -/
theorem writeRingRegistersUnderTheDmaLock : Obligations.WriteRingRegistersUnderTheDmaLock := by
  intro s d
  simp only [← s.dmaLocked_iff, Bool.not_eq_true, ← rlenField_toNat, BitVec.toNat_inj, ne_eq]
  exact ⟨rfl, rfl,
    fun hfree => (exec_wrRbase s d).trans (lockedWrite_of_unlocked _ hfree),
    fun hlock heq => (exec_wrRbase s d).trans (lockedWrite_of_eq _ hlock heq),
    fun hlock hne => (exec_wrRbase s d).trans (lockedWrite_of_ne _ hlock hne),
    fun hfree => ⟨_, (exec_wrRlen s d).trans (lockedWrite_of_unlocked _ hfree), rfl⟩,
    fun hlock heq => (exec_wrRlen s d).trans (lockedWrite_of_eq _ hlock heq),
    fun hlock hne => (exec_wrRlen s d).trans (lockedWrite_of_ne _ hlock hne)⟩

/-- Settles O19: both registers are under the TIM lock. -/
theorem writeTimerRegistersUnderTheTimLock : Obligations.WriteTimerRegistersUnderTheTimLock := by
  intro s d
  simp only [← halfField_toNat, BitVec.toNat_inj, ne_eq]
  exact ⟨rfl, rfl,
    fun hfree => ⟨_, (exec_wrArr s d).trans (lockedWrite_of_unlocked _ hfree), rfl⟩,
    fun hlock heq => (exec_wrArr s d).trans (lockedWrite_of_eq _ hlock heq),
    fun hlock hne => (exec_wrArr s d).trans (lockedWrite_of_ne _ hlock hne),
    fun hfree => ⟨_, (exec_wrPsc s d).trans (lockedWrite_of_unlocked _ hfree), rfl⟩,
    fun hlock heq => (exec_wrPsc s d).trans (lockedWrite_of_eq _ hlock heq),
    fun hlock hne => (exec_wrPsc s d).trans (lockedWrite_of_ne _ hlock hne)⟩

/-! ### The write of CTRL (R208) -/

section writeCtrl
variable (s : State) (w : Ctrl)

/-- The locked fields of a CTRL write (R208 step 1). -/
theorem State.writeLockedFields_ctrl : (s.writeLockedFields w).ctrl = { s.ctrl with
    mode := lockedField (s.modeLocked w) s.ctrl.mode w.mode
    pp := lockedField (s.ppLocked w) s.ctrl.pp w.pp
    cms := lockedField (s.timFieldsLocked w) s.ctrl.cms w.cms
    pol := lockedField (s.timFieldsLocked w) s.ctrl.pol w.pol } := by
  simp [State.writeLockedFields]

/-- A lock of a CTRL write turns a new value away (R205). -/
def State.ctrlWriteViolates (s : State) (w : Ctrl) : Bool :=
  lockViolated (s.modeLocked w) s.ctrl.mode w.mode || lockViolated (s.ppLocked w) s.ctrl.pp w.pp
    || lockViolated (s.timFieldsLocked w) s.ctrl.cms w.cms || lockViolated (s.timFieldsLocked w) s.ctrl.pol w.pol

theorem State.writeLockedFields_bit (k : Nat) :
    (s.writeLockedFields w).sr.getLsbD k = (s.sr.getLsbD k || (s.ctrlWriteViolates w && decide (k = 8))) :=
  State.setFlagIf_bit _ _ .cfge k

/-- `dmaEnable()` sets CFGE, bit 8, when TEIF, bit 4, forbids it, and TEIF when the buffer is not legal (R292). -/
theorem State.dmaEnable_bit (k : Nat) : s.dmaEnable.sr.getLsbD k = (s.sr.getLsbD k ||
    (s.flag .teif && decide (k = 8)) || (!s.flag .teif && !s.legal && decide (k = 4))) := by
  obtain ⟨hteif, heq⟩ | ⟨hteif, hlegal, heq⟩ | ⟨hteif, hlegal, heq⟩ := s.dmaEnable_cases
  · rw [heq, State.setFlag_bit, hteif, show Flag.cfge.code = 8 from rfl]
    simp
  · rw [heq, State.setFlag_bit, hteif, hlegal, show Flag.teif.code = 4 from rfl]
    simp
  · rw [heq, hteif, hlegal]
    simp

/-- What a write of DMAEN does to each flag (R208 step 4). -/
theorem State.writeDmaen_bit (b : Bool) (k : Nat) : (s.writeDmaen b).sr.getLsbD k = (s.sr.getLsbD k ||
    (!s.ctrl.dmaen && b && ((s.flag .teif && decide (k = 8)) || (!s.flag .teif && !s.legal && decide (k = 4))))) := by
  obtain ⟨hsame, heq⟩ | ⟨hold, hnew, heq⟩ | ⟨hold, hnew, heq⟩ := s.writeDmaen_cases b
  · rw [heq, hsame]
    simp
  · rw [heq, hold, hnew, State.dmaEnable_bit]
    simp [Bool.or_assoc]
  · rw [heq, hold]
    simp

/-- The fields of CTRL after a write, DMAEN apart (R208). -/
theorem State.writeCtrl_ctrl : { (s.writeCtrl w).ctrl with dmaen := w.dmaen } = { w with
    mode := lockedField (s.modeLocked w) s.ctrl.mode w.mode
    pp := lockedField (s.ppLocked w) s.ctrl.pp w.pp
    cms := lockedField (s.timFieldsLocked w) s.ctrl.cms w.cms
    pol := lockedField (s.timFieldsLocked w) s.ctrl.pol w.pol } := by
  simp [State.writeCtrl, State.writeLockedFields_ctrl]

/-- CFGE, bit 8, after a write of CTRL: only a violated lock and a refused enable set it. -/
theorem State.writeCtrl_cfge : (s.writeCtrl w).sr.getLsbD 8 =
    (s.sr.getLsbD 8 || s.ctrlWriteViolates w || (!s.ctrl.dmaen && w.dmaen && s.sr.getLsbD 4)) := by
  rw [State.writeCtrl, State.writeAden_sr, State.writeDmaen_bit, State.writeTimen_sr, State.writeFreeFields_sr,
    State.writeLockedFields_bit]
  have hdmaen : (((s.writeLockedFields w).writeFreeFields w).writeTimen w.timen).ctrl.dmaen = s.ctrl.dmaen := by
    simp [State.writeLockedFields_ctrl]
  have hteif : (((s.writeLockedFields w).writeFreeFields w).writeTimen w.timen).flag .teif = s.sr.getLsbD 4 := by
    rw [State.flag, State.writeTimen_sr, State.writeFreeFields_sr, State.writeLockedFields_bit]
    simp [Flag.code]
  rw [hdmaen, hteif]
  simp

theorem State.ctrlWriteViolates_iff : s.ctrlWriteViolates w = true ↔
    (s.modeLocked w = true ∧ w.mode ≠ s.ctrl.mode) ∨ (s.ppLocked w = true ∧ w.pp ≠ s.ctrl.pp) ∨
      (s.timFieldsLocked w = true ∧ (w.cms ≠ s.ctrl.cms ∨ w.pol ≠ s.ctrl.pol)) := by
  simp only [State.ctrlWriteViolates, Bool.or_eq_true, lockViolated_iff, or_assoc, and_or_left]

theorem State.writeCtrl_cfge_iff : (s.writeCtrl w).sr.getLsbD 8 = true ↔
    s.sr.getLsbD 8 = true ∨ s.ctrlWriteViolates w = true ∨
      (s.ctrl.dmaen = false ∧ w.dmaen = true ∧ s.sr.getLsbD 4 = true) := by
  simp only [State.writeCtrl_cfge, Bool.or_eq_true, Bool.and_eq_true, Bool.not_eq_true', or_assoc, and_assoc]

/-- A write of CTRL leaves all but CTRL, SR, the timer's state and the transfer's request and index. -/
theorem State.writeCtrl_frame : { s.writeCtrl w with
    ctrl := s.ctrl, sr := s.sr, cnt := s.cnt, psccnt := s.psccnt, tdir := s.tdir, ccra := s.ccra, widx := s.widx, dreq := s.dreq,
    resp := s.resp } = s := by
  apply State.ext <;> simp

end writeCtrl

/-- Settles O14: the fields and CFGE after the write, its locks those of R206. -/
theorem writeCtrlSetsItsFieldsUnderTheLocks : Obligations.WriteCtrlSetsItsFieldsUnderTheLocks := by
  intro s d
  have hctrl := s.writeCtrl_ctrl (Ctrl.ofWord d)
  refine ⟨rfl, _, rfl, rfl, congrArg Ctrl.aden hctrl, congrArg Ctrl.timen hctrl, congrArg Ctrl.oe hctrl,
    congrArg Ctrl.upden hctrl, ?_, s.writeCtrl_frame (Ctrl.ofWord d)⟩
  intro live modeLock ppLock timLock
  have hmode : s.modeLocked (Ctrl.ofWord d) = true ↔ modeLock := s.modeLocked_iff _
  have hpp : s.ppLocked (Ctrl.ofWord d) = true ↔ ppLock := s.ppLocked_iff _
  have htim : s.timFieldsLocked (Ctrl.ofWord d) = true ↔ timLock := s.timFieldsLocked_iff _
  rw [← hmode, ← hpp, ← htim]
  refine ⟨fun h => ?_, fun h => ?_, fun h => ?_, fun h => ?_, fun h => ⟨?_, ?_⟩, fun h => ⟨?_, ?_⟩, ?_⟩
  · exact (congrArg Ctrl.mode hctrl).trans (lockedField_of_locked h)
  · exact (congrArg Ctrl.mode hctrl).trans (lockedField_of_unlocked h)
  · exact (congrArg Ctrl.pp hctrl).trans (lockedField_of_locked h)
  · exact (congrArg Ctrl.pp hctrl).trans (lockedField_of_unlocked h)
  · exact (congrArg Ctrl.cms hctrl).trans (lockedField_of_locked h)
  · exact (congrArg Ctrl.pol hctrl).trans (lockedField_of_locked h)
  · exact (congrArg Ctrl.cms hctrl).trans (lockedField_of_unlocked h)
  · exact (congrArg Ctrl.pol hctrl).trans (lockedField_of_unlocked h)
  · rw [State.done_sr, State.writeCtrl_cfge_iff, State.ctrlWriteViolates_iff, or_assoc, or_assoc]
    exact Iff.rfl

end Sys2Proof.Machine
end

section
/-! PROOFS. The converter (spec/41_sample_source.md): the deposit of a sample, its overrun and the service it requests (R261). -/

namespace Sys2Proof.Machine

section conversion
variable (s : State)

/-! ### An overrun -/

/-- An unconsumed value sets OVR, bit 1. -/
theorem State.noteOverrun_bit (k : Nat) : s.noteOverrun.sr.getLsbD k = (s.sr.getLsbD k || (s.unc && decide (k = 1))) := by
  have hsr : s.noteOverrun.sr = (s.setFlagIf s.unc .ovr).sr := by
    unfold State.noteOverrun State.setFlagIf
    split <;> rfl
  rw [hsr, State.setFlagIf_bit]
  rfl

theorem State.noteOverrun_ovrcnt_toNat :
    s.noteOverrun.ovrcnt.toNat = if s.unc then min (s.ovrcnt.toNat + 1) 0xFFFF else s.ovrcnt.toNat := by
  rw [← satSucc_toNat, State.noteOverrun]
  split <;> rfl

/-! ### The service requested -/

@[simp] theorem State.requestService_dreq : s.requestService.dreq = (s.dreq || (s.ctrl.mode && s.ctrl.dmaen)) := by
  simp [State.requestService]
@[simp] theorem State.requestService_trigp : s.requestService.trigp = ((!s.ctrl.mode && s.ctrl.upden) || s.trigp) := by
  simp [State.requestService]
@[simp] theorem State.requestService_tkind :
    s.requestService.tkind = if !s.ctrl.mode && s.ctrl.upden then .direct else s.tkind :=
  State.triggerIf_tkind _ _ _

theorem State.requestService_bit (k : Nat) : s.requestService.sr.getLsbD k = (s.sr.getLsbD k ||
    (!s.ctrl.mode && s.ctrl.upden && (s.trigp || s.ustate == .updating) && decide (k = 6))) :=
  State.triggerIf_bit _ _ _ _

/-! ### The conversion -/

variable (x : Sample)

@[simp] theorem State.conversion_dr : (s.conversion x).dr = x := by simp [State.conversion]
@[simp] theorem State.conversion_unc : (s.conversion x).unc = true := by simp [State.conversion]
@[simp] theorem State.conversion_dreq : (s.conversion x).dreq = (s.dreq || (s.ctrl.mode && s.ctrl.dmaen)) := by
  simp [State.conversion]
@[simp] theorem State.conversion_trigp : (s.conversion x).trigp = ((!s.ctrl.mode && s.ctrl.upden) || s.trigp) := by
  simp [State.conversion]
@[simp] theorem State.conversion_tkind :
    (s.conversion x).tkind = if !s.ctrl.mode && s.ctrl.upden then .direct else s.tkind := by
  simp [State.conversion]

theorem State.conversion_ovrcnt_toNat :
    (s.conversion x).ovrcnt.toNat = if s.unc then min (s.ovrcnt.toNat + 1) 0xFFFF else s.ovrcnt.toNat := by
  rw [← s.noteOverrun_ovrcnt_toNat, State.conversion, State.requestService_ovrcnt, State.deposit_ovrcnt]

/-- A conversion sets EOC, bit 0, and OVR, bit 1, on an overrun; UOVF, bit 6, is its trigger's. -/
theorem State.conversion_bit (k : Nat) : (s.conversion x).sr.getLsbD k =
    (s.sr.getLsbD k || (s.unc && decide (k = 1)) || decide (k = 0) ||
      (!s.ctrl.mode && s.ctrl.upden && (s.trigp || s.ustate == .updating) && decide (k = 6))) := by
  rw [State.conversion, State.requestService_bit, State.deposit_sr, BitVec.getLsbD_or, State.noteOverrun_bit, Flag.mask_getLsbD,
    show Flag.eoc.code = 0 from rfl]
  simp

theorem State.conversion_frame : { s.conversion x with
    dr := s.dr, unc := s.unc, sr := s.sr, ovrcnt := s.ovrcnt, dreq := s.dreq, trigp := s.trigp, tkind := s.tkind } = s := by
  apply State.ext <;> simp

variable {s x}

/-- Direct mode with the update unit enabled triggers a direct pass (R268), UOVF reporting one still live (R401). -/
theorem State.conversion_trigger_of_direct (hmode : s.ctrl.mode = false) (hupden : s.ctrl.upden = true) :
    (s.conversion x).trigp = true ∧ (s.conversion x).tkind = .direct ∧
    (s.conversion x).sr.getLsbD 6 = (s.sr.getLsbD 6 || s.trigp || decide (s.ustate = .updating)) := by
  rw [State.conversion_bit, State.conversion_trigp, State.conversion_tkind, hmode, hupden]
  simp [beq_eq_decide, Bool.or_assoc]

/-- Without that, a conversion leaves the trigger as it is. -/
theorem State.conversion_trigger_of_not_direct (h : ¬ (s.ctrl.mode = false ∧ s.ctrl.upden = true)) :
    (s.conversion x).trigp = s.trigp ∧ (s.conversion x).tkind = s.tkind ∧
    (s.conversion x).sr.getLsbD 6 = s.sr.getLsbD 6 := by
  have hnone : (!s.ctrl.mode && s.ctrl.upden) = false := by simpa using h
  rw [State.conversion_bit, State.conversion_trigp, State.conversion_tkind, hnone]
  simp

end conversion

theorem exec_adcEoc_of_enabled {s : State} {x : Nat} (hx : x < 2 ^ 12) (hen : s.enabledNow (.adcEoc x) = true) :
    exec (.adcEoc x) s = .next (s.conversion (BitVec.ofNat 12 x)) :=
  (if_pos (decide_eq_true hx)).trans (congrArg Host.Outcome.next (if_pos hen))

/-- Settles O27: what a conversion does to each field and each flag. -/
theorem conversionDepositsTheSample : Obligations.ConversionDepositsTheSample := by
  intro s x hx hen
  refine ⟨s.conversion (BitVec.ofNat 12 x), exec_adcEoc_of_enabled hx hen, ?_, s.conversion_unc _, ?_, ?_,
    s.conversion_ovrcnt_toNat _, s.conversion_dreq _,
    ⟨fun ⟨hmode, hupden⟩ => State.conversion_trigger_of_direct hmode hupden, State.conversion_trigger_of_not_direct⟩,
    fun k heoc hovr huovf => ?_, s.conversion_frame _⟩
  · rw [State.conversion_dr, BitVec.toNat_ofNat, Nat.mod_eq_of_lt hx]
  · rw [State.conversion_bit]
    simp
  · rw [State.conversion_bit]
    simp
  · rw [State.conversion_bit]
    simp [heoc, hovr, huovf]

end Sys2Proof.Machine
end

section
/-! PROOFS. The transfer engine (spec/42_transfer_engine.md): its enable in a CTRL write (R292 to R294), the events and triggers of a
transfer (R295 to R298), torn reads (R299), the transfer error (R300, R301), and who writes memory (R304). -/

namespace Sys2Proof.Machine

/-! ### The legal buffer -/

section buffer
variable {s t : State}

theorem State.bufLen_congr (hrlen : t.rlen = s.rlen) (hpp : t.ctrl.pp = s.ctrl.pp) : t.bufLen = s.bufLen := by
  simp only [State.bufLen, hrlen, hpp]

theorem State.legal_congr (hplat : t.plat = s.plat) (hrlen : t.rlen = s.rlen) (hrbase : t.rbase = s.rbase)
    (hpp : t.ctrl.pp = s.ctrl.pp) : t.legal = s.legal := by
  simp only [State.legal, State.bufLen_congr hrlen hpp, hplat, hrlen, hrbase]

theorem State.rlen_le_of_legal (h : s.legal = true) : s.rlen.toNat ≤ 256 := by
  obtain ⟨-, hmax, -⟩ := s.legal_iff.mp h
  exact hmax

/-- A legal buffer holds 1 to 512 slots (spec/42_transfer_engine.md R293). -/
theorem State.bufLen_of_legal (h : s.legal = true) : 0 < s.bufLen ∧ s.bufLen ≤ 512 := by
  obtain ⟨hmin, hmax, -⟩ := s.legal_iff.mp h
  unfold State.bufLen
  split <;> omega

/-- A slot of a legal buffer is an aligned halfword inside [RAM_LO, RAM_HI] (R302). -/
theorem State.slotAddr_of_legal (h : s.legal = true) {i : Nat} (hi : i < s.bufLen) : s.slotAddr i % 2 = 0 ∧
    s.plat.ramLo.toNat ≤ s.slotAddr i ∧ s.slotAddr i + 1 ≤ s.plat.ramHi.toNat := by
  obtain ⟨-, -, heven, hlow, hhigh⟩ := s.legal_iff.mp h
  unfold State.slotAddr
  omega

end buffer

/-! ### One flag set -/

theorem State.flag_setFlag (s : State) (f : Flag) : (s.setFlag f).flag f = true := by
  rw [State.flag, State.setFlag_bit, decide_eq_true rfl, Bool.or_true]

theorem State.flag_setFlag_of_ne (s : State) {f g : Flag} (hne : g.code ≠ f.code) : (s.setFlag f).flag g = s.flag g := by
  rw [State.flag, State.setFlag_bit, decide_eq_false hne, Bool.or_false, State.flag]

/-! ### The enable (R292 to R294) -/

section enable
variable {s : State}

theorem State.dmaEnable_of_error (hteif : s.flag .teif = true) : s.dmaEnable = s.setFlag .cfge := if_pos hteif

theorem State.dmaEnable_of_not_legal (hteif : s.flag .teif = false) (hlegal : ¬ s.legal = true) : s.dmaEnable = s.setFlag .teif := by
  simp [State.dmaEnable, hteif, hlegal]

theorem State.dmaEnable_of_legal (hteif : s.flag .teif = false) (hlegal : s.legal = true) :
    s.dmaEnable = { s with ctrl := { s.ctrl with dmaen := true }, widx := 0, dreq := false } := by
  simp [State.dmaEnable, hteif, hlegal]

theorem State.writeDmaen_same {b : Bool} (h : s.ctrl.dmaen = b) : s.writeDmaen b = s := by
  subst h
  cases hold : s.ctrl.dmaen <;> simp [State.writeDmaen, hold]

theorem State.writeDmaen_on (h : s.ctrl.dmaen = false) : s.writeDmaen true = s.dmaEnable := by simp [State.writeDmaen, h]
theorem State.writeDmaen_off (h : s.ctrl.dmaen = true) : s.writeDmaen false = s.dmaDisable := by simp [State.writeDmaen, h]

end enable

section writeCtrl
variable (s : State) (w : Ctrl)

/-- The state a CTRL write has reached when it comes to the transfer engine's enable bit (spec/40_bus_interface.md R208 steps 1 to 3). -/
def State.beforeEngine : State := ((s.writeLockedFields w).writeFreeFields w).writeTimen w.timen

theorem State.writeCtrl_eq_writeDmaen : s.writeCtrl w = ((s.beforeEngine w).writeDmaen w.dmaen).writeAden w.aden := rfl

@[simp] theorem State.beforeEngine_dmaen : (s.beforeEngine w).ctrl.dmaen = s.ctrl.dmaen := by
  simp [State.beforeEngine, State.writeLockedFields_ctrl]
@[simp] theorem State.beforeEngine_pp : (s.beforeEngine w).ctrl.pp = lockedField (s.ppLocked w) s.ctrl.pp w.pp := by
  simp [State.beforeEngine, State.writeLockedFields_ctrl]
@[simp] theorem State.beforeEngine_rlen : (s.beforeEngine w).rlen = s.rlen := by simp [State.beforeEngine]
@[simp] theorem State.beforeEngine_rbase : (s.beforeEngine w).rbase = s.rbase := by simp [State.beforeEngine]
@[simp] theorem State.beforeEngine_plat : (s.beforeEngine w).plat = s.plat := by simp [State.beforeEngine]
@[simp] theorem State.beforeEngine_widx : (s.beforeEngine w).widx = s.widx := by simp [State.beforeEngine]
@[simp] theorem State.beforeEngine_dreq : (s.beforeEngine w).dreq = s.dreq := by simp [State.beforeEngine]
@[simp] theorem State.beforeEngine_unc : (s.beforeEngine w).unc = s.unc := by simp [State.beforeEngine]

theorem State.beforeEngine_bit (k : Nat) :
    (s.beforeEngine w).sr.getLsbD k = (s.sr.getLsbD k || (s.ctrlWriteViolates w && decide (k = 8))) := by
  rw [State.beforeEngine, State.writeTimen_sr, State.writeFreeFields_sr, State.writeLockedFields_bit]

theorem State.beforeEngine_flag {f : Flag} (hcfge : f.code ≠ 8) : (s.beforeEngine w).flag f = s.flag f := by
  rw [State.flag, State.beforeEngine_bit, decide_eq_false hcfge, Bool.and_false, Bool.or_false, State.flag]

/-- Of the flags, a CTRL write touches TEIF, bit 4, and CFGE, bit 8, alone. -/
theorem State.writeCtrl_bit_of_ne {k : Nat} (hteif : k ≠ 4) (hcfge : k ≠ 8) : (s.writeCtrl w).sr.getLsbD k = s.sr.getLsbD k := by
  rw [State.writeCtrl_eq_writeDmaen, State.writeAden_sr, State.writeDmaen_bit, State.beforeEngine_bit]
  simp [hteif, hcfge]

/-- The buffer a CTRL write would enable the engine on, with the PP it leaves. -/
theorem State.beforeEngine_legal_iff : (s.beforeEngine w).legal = true ↔
    1 ≤ s.rlen.toNat ∧ s.rlen.toNat ≤ 256 ∧ s.rbase.toNat % 2 = 0 ∧ s.plat.ramLo.toNat ≤ s.rbase.toNat ∧
      s.rbase.toNat + 2 * (if (s.writeCtrl w).ctrl.pp then 2 * s.rlen.toNat else s.rlen.toNat) - 1 ≤ s.plat.ramHi.toNat := by
  rw [State.legal_iff, State.bufLen, State.writeCtrl_eq_writeDmaen, State.writeAden_ctrl]
  simp

end writeCtrl

/-- Settles O16: a CTRL write comes to `dmaEnable()` or `dmaDisable()` with the engine's own state as it was. -/
theorem writeCtrlEnablesTheTransferEngine : Obligations.WriteCtrlEnablesTheTransferEngine := by
  intro s d
  have hteif : (s.beforeEngine (Ctrl.ofWord d)).flag .teif = s.flag .teif := s.beforeEngine_flag _ (by decide)
  have hdmaen := s.beforeEngine_dmaen (Ctrl.ofWord d)
  have hwidx := s.beforeEngine_widx (Ctrl.ofWord d)
  have hdreq := s.beforeEngine_dreq (Ctrl.ofWord d)
  have hlegal := s.beforeEngine_legal_iff (Ctrl.ofWord d)
  refine ⟨_, rfl, ⟨fun hold hnew herr => ?_, fun hold hnew hok hbad => ?_, fun hold hnew hok hgood => ?_, fun hold hnew => ?_,
    fun hsame => ?_⟩, fun k => s.writeCtrl_bit_of_ne _, s.writeCtrl_unc _, s.writeCtrl_trigp _, s.writeCtrl_ustate _⟩
  all_goals rw [State.writeCtrl_eq_writeDmaen]
  · rw [show (Ctrl.ofWord d).dmaen = true from hnew, State.writeDmaen_on (hdmaen.trans hold),
      State.dmaEnable_of_error (hteif.trans herr)]
    exact ⟨hdmaen.trans hold, State.flag_setFlag _ .cfge,
      (State.flag_setFlag_of_ne _ (f := .cfge) (g := .teif) (by decide)).trans (hteif.trans herr), hwidx, hdreq⟩
  · rw [show (Ctrl.ofWord d).dmaen = true from hnew, State.writeDmaen_on (hdmaen.trans hold),
      State.dmaEnable_of_not_legal (hteif.trans hok) (mt hlegal.mp hbad)]
    exact ⟨hdmaen.trans hold, State.flag_setFlag _ .teif, hwidx, hdreq⟩
  · rw [show (Ctrl.ofWord d).dmaen = true from hnew, State.writeDmaen_on (hdmaen.trans hold),
      State.dmaEnable_of_legal (hteif.trans hok) (hlegal.mpr hgood)]
    exact ⟨rfl, hteif.trans hok, rfl, rfl⟩
  · rw [show (Ctrl.ofWord d).dmaen = false from hnew, State.writeDmaen_off (hdmaen.trans hold)]
    exact ⟨rfl, hteif, hwidx, rfl⟩
  · rw [State.writeDmaen_same (b := (Ctrl.ofWord d).dmaen) (hdmaen.trans hsame)]
    exact ⟨hdmaen, hteif, hwidx, hdreq⟩

/-! ### The events of a transfer (R295 to R299) -/

theorem State.dmaXferEnabled_iff {s : State} : s.dmaXferEnabled = true ↔ s.ctrl.dmaen = true ∧ s.dreq = true := by
  simp [State.dmaXferEnabled]

theorem exec_dmaXfer_of_enabled {s : State} (hen : s.enabledNow .dmaXfer = true) : exec .dmaXfer s = .next s.transfer :=
  congrArg Host.Outcome.next (if_pos hen)

/-- The half event of the next transfer triggers a pass (R296). -/
def State.halfTriggers (s : State) : Bool := decide (s.widx + 1 = s.halfPoint) && s.ctrl.pp && s.ctrl.upden

/-- The full event of the next transfer triggers a pass (R297). -/
def State.fullTriggers (s : State) : Bool := decide (s.widx + 1 = s.bufLen) && s.ctrl.upden

/-- The state a transfer has reached when its slot is written, before its events. -/
def State.slotWritten (s : State) : State := (s.consumeDR.checkTornRead s.widx).storeSlot

section slotWritten
variable (s : State)

@[simp] theorem State.slotWritten_ctrl : s.slotWritten.ctrl = s.ctrl := by simp [State.slotWritten]
@[simp] theorem State.slotWritten_rlen : s.slotWritten.rlen = s.rlen := by simp [State.slotWritten]
@[simp] theorem State.slotWritten_widx : s.slotWritten.widx = s.widx := by simp [State.slotWritten]
@[simp] theorem State.slotWritten_trigp : s.slotWritten.trigp = s.trigp := by simp [State.slotWritten]
@[simp] theorem State.slotWritten_tkind : s.slotWritten.tkind = s.tkind := by simp [State.slotWritten]
@[simp] theorem State.slotWritten_ustate : s.slotWritten.ustate = s.ustate := by simp [State.slotWritten]
@[simp] theorem State.slotWritten_bufLen : s.slotWritten.bufLen = s.bufLen := State.bufLen_congr (by simp) (by simp)
@[simp] theorem State.slotWritten_halfPoint : s.slotWritten.halfPoint = s.halfPoint := by simp [State.halfPoint]

@[simp] theorem State.halfTransfer_bufLen (k : Nat) : (s.halfTransfer k).bufLen = s.bufLen :=
  State.bufLen_congr (by simp) (by simp)

/-- Before its events a transfer clears EOC and reports a torn read with RWOVF, bit 10 (R299). -/
theorem State.slotWritten_bit (k : Nat) : s.slotWritten.sr.getLsbD k =
    ((s.sr.getLsbD k && decide (k ≠ 0)) || (s.tornBy s.widx && decide (k = 10))) := by
  rw [State.slotWritten, State.storeSlot_sr, State.checkTornRead, State.setFlagIf_bit, State.consumeDR_bit]
  rfl

end slotWritten

section transfer
variable {s : State} (hok : s.memOK (s.slotAddr s.widx) 2 = true)
include hok

theorem State.transfer_eq_of_memOK : s.transfer = (s.slotWritten.halfTransfer (s.widx + 1)).advanceSlot (s.widx + 1) :=
  State.transfer_of_memOK hok

/-- The flags of a completed transfer: UOVF, bit 6, for each of its triggers that finds a pass live, the half event's trigger counting for
the full one's (spec/45_update_unit.md R401). -/
theorem State.transfer_bit_of_memOK (k : Nat) : s.transfer.sr.getLsbD k =
    (s.slotWritten.sr.getLsbD k
      || (decide (s.widx + 1 = s.halfPoint) && decide (k = 2)) || (s.halfTriggers && s.passLive && decide (k = 6))
      || (decide (s.widx + 1 = s.bufLen) && decide (k = 3))
      || (s.fullTriggers && (s.passLive || s.halfTriggers) && decide (k = 6))) := by
  obtain ⟨htrigp, -⟩ := s.slotWritten.halfTransfer_trigger (s.widx + 1)
  rw [State.transfer_eq_of_memOK hok, State.advanceSlot_bit, State.halfTransfer_bit, htrigp]
  simp only [State.halfTransfer_bufLen, State.halfTransfer_ctrl, State.halfTransfer_ustate, State.slotWritten_bufLen,
    State.slotWritten_halfPoint, State.slotWritten_ctrl, State.slotWritten_trigp, State.slotWritten_ustate, State.passLive,
    State.halfTriggers, State.fullTriggers]
  ac_rfl

/-- The pass a completed transfer leaves pending: the latest trigger wins. -/
theorem State.transfer_trigger_of_memOK : s.transfer.trigp = (s.trigp || s.halfTriggers || s.fullTriggers) ∧
    s.transfer.tkind = if s.fullTriggers then (if s.ctrl.pp then .ring1 else .ring0) else if s.halfTriggers then .ring0 else s.tkind := by
  obtain ⟨hhalfp, hhalfk⟩ := s.slotWritten.halfTransfer_trigger (s.widx + 1)
  obtain ⟨hfullp, hfullk, -⟩ := (s.slotWritten.halfTransfer (s.widx + 1)).advanceSlot_trigger (s.widx + 1)
  rw [State.transfer_eq_of_memOK hok, hfullp, hfullk, hhalfp, hhalfk]
  simp [State.halfTriggers, State.fullTriggers]

end transfer

/-- Settles O29, from the flags and the trigger of a completed transfer. -/
theorem transferRaisesItsEventsAndTriggers : Obligations.TransferRaisesItsEventsAndTriggers := by
  intro s hen hok
  obtain ⟨htrigp, htkind⟩ := State.transfer_trigger_of_memOK hok
  have hwidx := State.transfer_widx_of_memOK hok
  refine ⟨s.transfer, exec_dmaXfer_of_enabled hen, ?_, fun k heoc hhtif htcif huovf hrwovf => ?_⟩
  · intro len ht tc trigH trigC live
    have hht : decide (s.widx + 1 = s.halfPoint) = ht := rfl
    have htc : decide (s.widx + 1 = s.bufLen) = tc := rfl
    have htrigH : s.halfTriggers = trigH := rfl
    have htrigC : s.fullTriggers = trigC := rfl
    have hlive : s.passLive = live := by simp [live, State.passLive, beq_eq_decide, Bool.or_comm]
    refine ⟨?_, ?_, ?_, htrigp, htkind, ?_⟩
    · rw [State.transfer_bit_of_memOK hok, State.slotWritten_bit, hht]
      simp
    · rw [State.transfer_bit_of_memOK hok, State.slotWritten_bit, htc]
      simp
    · rw [hwidx, ← htc]
      simp
    · rw [State.transfer_bit_of_memOK hok, State.slotWritten_bit, htrigH, htrigC, hlive]
      simp
  · rw [State.transfer_bit_of_memOK hok, State.slotWritten_bit]
    simp [heoc, hhtif, htcif, huovf, hrwovf]

/-- Settles O30: of a transfer's operations, only `checkTornRead()` touches RWOVF, bit 10. -/
theorem transferReportsATornRead : Obligations.TransferReportsATornRead := by
  intro s hen hok
  have hbit : s.transfer.sr.getLsbD 10 = (s.sr.getLsbD 10 || s.tornBy s.widx) := by
    rw [State.transfer_bit_of_memOK hok, State.slotWritten_bit]
    simp
  refine ⟨s.transfer, exec_dmaXfer_of_enabled hen, ?_, State.transfer_mem_of_memOK hok⟩
  intro n base torn
  have htorn : s.tornBy s.widx = true ↔ torn := by
    rw [State.tornBy_iff, State.ringBase_eq]
  rw [hbit, ← htorn]
  exact ⟨fun h => by simp [h], fun h => by simp [h]⟩

/-! ### The transfer error (R300, R301) -/

/-- Settles O31: a transfer whose access would fail is `teFault()`. -/
theorem transferErrorStopsTheEngine : Obligations.TransferErrorStopsTheEngine := by
  intro s hen hbad
  obtain ⟨-, hfault⟩ | ⟨hok, -⟩ := s.transfer_cases
  · rw [exec_dmaXfer_of_enabled hen, hfault, State.teFault, State.setFlag, Flag.mask_teif]
    rfl
  · cases hbad.symm.trans hok

/-! ### Who writes memory (R304) -/

/-- `t` has memory as `s` has it. -/
def State.SameMemory (s t : State) : Prop := t.mem = s.mem

theorem State.sameMemory_refl (s : State) : s.SameMemory s := rfl

/-- An operation that answers keeps memory, unless it is one of the two that write it. -/
theorem exec_sameMemory {i : Instr} {s t : State} (h : exec i s = .next t) :
    s.SameMemory t ∨ i = .dmaXfer ∨ ∃ b n v, i = .hostMemWr b n v := by
  cases i with
  | dmaXfer => exact .inr (.inl rfl)
  | hostMemWr b n v => exact .inr (.inr ⟨b, n, v, rfl⟩)
  -- A register read, a write of a register with no lock, an ignored write, and a bus error.
  | rdCtrl | rdAdccfg | rdRbase | rdRlen | rdArr | rdPsc | rdCcr | rdCnt | rdSr | rdIer | rdDr | rdStat | rdFilt | rdOvrcnt
  | rdRsv038 | rdRsv040 | rdRsv080 | rdRsv100 | rdRsv200 | wrCnt | wrSr | wrIer | wrDr | wrStat | wrFilt | wrOvrcnt
  | wrRsv038 | wrRsv040 | wrRsv080 | wrRsv100 | wrRsv200 | subWord | oddOffset | twoModFour | reset =>
    exact .inl (next_keeps h s.sameMemory_refl)
  -- A write under a lock, which may raise CFGE beside the field (R205).
  | wrAdccfg | wrRbase | wrRlen | wrArr | wrPsc => exact .inl (next_keeps h (State.setFlagIf_mem _ _ _))
  | wrCtrl => exact .inl (next_keeps h (s.writeCtrl_mem _))
  | wrCcr =>
    obtain rfl := Host.Outcome.next.inj h
    exact .inl (ite_keeps (P := fun u => u.done.mem = s.mem) rfl rfl)
  | adcEoc => exact .inl (guarded_keeps h (ite_keeps (s.conversion_mem _) s.sameMemory_refl))
  | updStart => exact .inl (next_keeps h (ite_keeps s.startPass_mem s.sameMemory_refl))
  | updDirect => exact .inl (next_keeps h (ite_keeps s.directPass_mem s.sameMemory_refl))
  | updRead => exact .inl (next_keeps h (ite_keeps s.readSlot_mem s.sameMemory_refl))
  | updFinish => exact .inl (next_keeps h (ite_keeps s.finishPass_mem s.sameMemory_refl))
  | timTick => exact .inl (next_keeps h (ite_keeps s.tick_mem s.sameMemory_refl))
  | hostMemRd => exact .inl (guarded_keeps h s.sameMemory_refl)
  -- The forms that spell no operation answer no next state (R150).
  | refusedZ1xx | refusedZ01x | refusedZ001 | refusedSz11 | refusedEvt0 | refusedEvtB | refusedEvtCF => cases h

/-- A byte that differs from before lies in what was written. -/
theorem Memory.mem_range_of_byteAt_write_ne {m : Memory} {a b n v : Nat} (h : (m.write b n v).byteAt a ≠ m.byteAt a) :
    b ≤ a ∧ a < b + n := by
  by_contra hout
  exact h (Memory.byteAt_write_outside n m b v (by omega))

theorem exec_dmaXfer_writes {s t : State} {a : Nat} (h : exec .dmaXfer s = .next t) (hne : t.mem.byteAt a ≠ s.mem.byteAt a) :
    s.dmaXferEnabled = true ∧ s.memOK (s.slotAddr s.widx) 2 = true ∧ s.slotAddr s.widx ≤ a ∧ a < s.slotAddr s.widx + 2 := by
  obtain rfl := Host.Outcome.next.inj h
  split at hne
  case isFalse => exact absurd rfl hne
  case isTrue hen =>
    obtain ⟨-, hfault⟩ | ⟨hok, -⟩ := s.transfer_cases
    · rw [hfault] at hne
      exact absurd rfl hne
    · rw [State.transfer_mem_of_memOK hok] at hne
      exact ⟨hen, hok, Memory.mem_range_of_byteAt_write_ne hne⟩

theorem exec_hostMemWr_writes {s t : State} {a n : Nat} {b v : Word} (h : exec (.hostMemWr b n v) s = .next t)
    (hne : t.mem.byteAt a ≠ s.mem.byteAt a) : s.memOK b.toNat n = true ∧ b.toNat ≤ a ∧ a < b.toNat + n := by
  refine guarded_keeps (P := fun t => t.mem.byteAt a ≠ s.mem.byteAt a → _) h ?_ hne
  exact iteInduction (motive := fun t : State => t.mem.byteAt a ≠ s.mem.byteAt a → _)
    (fun hok hbyte => ⟨hok, Memory.mem_range_of_byteAt_write_ne hbyte⟩) (fun _ hbyte => absurd rfl hbyte)

/-- Settles O49: the operations' frame, and what the two writers write. -/
theorem onlyTransfersAndTheHostWriteMemory : Obligations.OnlyTransfersAndTheHostWriteMemory := by
  intro i s t a h hne
  obtain hsame | rfl | ⟨b, n, v, rfl⟩ := exec_sameMemory h
  · exact absurd (congrArg (Memory.byteAt · a) hsame) hne
  · obtain ⟨hen, hok, hlow, hhigh⟩ := exec_dmaXfer_writes h hne
    obtain ⟨hdmaen, hdreq⟩ := State.dmaXferEnabled_iff.mp hen
    exact .inl ⟨rfl, hdmaen, hdreq, hok, by omega⟩
  · exact .inr ⟨b, n, v, rfl, exec_hostMemWr_writes h hne⟩

end Sys2Proof.Machine
end

section
/-! PROOFS. The invariant of the block, `State.Inv`: each shared operation keeps it (spec/41_sample_source.md R261, R266,
spec/42_transfer_engine.md R292 to R300, spec/44_actuation_sink.md R360 to R366, spec/45_update_unit.md R401 to R407), so a step does; and
what it says of the addresses of a transfer and a pass (R302, spec/20_memory.md R107) and of the sum (spec/43_filter_mapper.md R332). -/

namespace Sys2Proof.Machine

/-! ### The parts of the invariant an operation leaves alone -/

section frame
variable {s t : State}

/-- The pass that is pending or running stands in `t` as in `s`, and so does its ring. -/
def State.PassKept (s t : State) : Prop :=
  t.plat = s.plat ∧ t.ustate = s.ustate ∧ t.ucur = s.ucur ∧ t.ubase = s.ubase ∧ t.trigp = s.trigp ∧ t.tkind = s.tkind ∧
    (s.passLive = true → t.rlen = s.rlen ∧ t.rbase = s.rbase ∧ t.ctrl.pp = s.ctrl.pp)

theorem State.pendingRing_of_updStartEnabled (h : s.updStartEnabled = true) : s.trigp = true ∧ s.tkind ≠ .direct := by
  simp only [State.updStartEnabled, Bool.and_eq_true, bne_iff_ne] at h
  obtain ⟨⟨⟨-, htrigp⟩, hkind⟩, -⟩ := h
  exact ⟨htrigp, hkind⟩

theorem State.updReadEnabled_iff : s.updReadEnabled = true ↔ s.ustate = .updating ∧ s.ucur < s.rlen.toNat := by
  simp [State.updReadEnabled]

theorem State.passLive_of_updating (h : s.ustate = .updating) : s.passLive = true := by simp [State.passLive, h]
theorem State.passLive_of_trigp (h : s.trigp = true) : s.passLive = true := by simp [State.passLive, h]

/-- An operation that keeps the pass has only the transfer engine's part of the geometry to answer for. -/
theorem State.GeometryOk.of_passKept (h : s.GeometryOk) (e : s.PassKept t)
    (hengine : t.ctrl.dmaen = true → t.legal = true ∧ t.widx < t.bufLen) (hwidx : t.widx ≤ 511) : t.GeometryOk := by
  obtain ⟨hplat, hustate, hucur, hubase, htrigp, htkind, hring⟩ := e
  refine ⟨hengine, fun hlive => ?_, fun hrun => ?_, fun htrig hkind => ?_, hwidx, hucur ▸ h.ucurRange, hubase ▸ h.ubaseRange⟩
  · rw [State.ringPassLive, hustate, htrigp, htkind] at hlive
    have hpass : s.passLive = true := hlive.elim State.passLive_of_updating fun hpending => State.passLive_of_trigp hpending.1
    obtain ⟨hrlen, hrbase, hpp⟩ := hring hpass
    exact (State.legal_congr hplat hrlen hrbase hpp).trans (h.passLegal hlive)
  · rw [hustate] at hrun
    obtain ⟨hrlen, -, hpp⟩ := hring (State.passLive_of_updating hrun)
    rw [hucur, hubase, hrlen, hpp]
    exact h.running hrun
  · rw [htrigp] at htrig
    obtain ⟨-, -, hpp⟩ := hring (State.passLive_of_trigp htrig)
    exact hpp.trans (h.pendingRing1 htrig (htkind ▸ hkind))

/-- `s` with every field the invariant does not read at one value. -/
def State.invariantPart (s : State) : State :=
  { s with
    ctrl := { s.ctrl with aden := false, mode := false, pol := false, oe := false, upden := false }
    adccfg := State.reset.adccfg, ccr := 0, ier := 0, dr := 0, filt := State.reset.filt, ovrcnt := 0, ccra := 0
    hostHalted := false, inputs := [], stepNo := 0, resp := .none }

theorem State.invariantPart_inv : s.invariantPart.Inv ↔ s.Inv :=
  ⟨fun h => { h with geometry := { h.geometry with }, events := { h.events with } },
    fun h => { h with geometry := { h.geometry with }, events := { h.events with } }⟩

/-- An operation on the fields the invariant does not read keeps it. -/
theorem State.Inv.congr (h : s.Inv) (e : t.invariantPart = s.invariantPart) : t.Inv :=
  State.invariantPart_inv.mp (e ▸ State.invariantPart_inv.mpr h)

end frame

theorem State.flag_of_flag_clearFlags {s : State} {m : BitVec 11} {f : Flag} (h : (s.clearFlags m).flag f = true) :
    s.flag f = true := by
  rw [State.flag, State.clearFlags_sr, BitVec.getLsbD_and, Bool.and_eq_true] at h
  exact h.1

/-- A flag other than EOC keeps the events in order; TEIF, of a stopped engine only. -/
theorem State.EventsOk.setFlag {s : State} {f : Flag} (h : s.EventsOk) (heoc : Flag.eoc.code ≠ f.code)
    (hteif : Flag.teif.code = f.code → s.ctrl.dmaen = false) : (s.setFlag f).EventsOk where
  requestEnabled := h.requestEnabled
  eocUnconsumed := fun hset => h.eocUnconsumed ((s.flag_setFlag_of_ne heoc).symm.trans hset)
  errorStopped := fun hset => by
    by_cases hself : Flag.teif.code = f.code
    · exact hteif hself
    · exact h.errorStopped ((s.flag_setFlag_of_ne hself).symm.trans hset)

/-! ### The counter's place in its period

What the invariant says of the timer in each of its modes (spec/44_actuation_sink.md R363, R364). -/

theorem State.timerOk_up (s : State) (harr : s.arr ≠ 0) (hmode : s.ctrl.cms = false) :
    s.TimerOk ↔ (s.ctrl.timen = true → s.psccnt ≤ s.psc ∧ s.cnt ≤ s.arr ∧ s.tdir = .up) := by
  simp [State.TimerOk, show ¬ s.arr = 0#16 from harr, hmode]

theorem State.timerOk_center (s : State) (harr : s.arr ≠ 0) (hmode : s.ctrl.cms = true) :
    s.TimerOk ↔ (s.ctrl.timen = true → s.psccnt ≤ s.psc ∧ (s.tdir = .up → s.cnt < s.arr) ∧
      (s.tdir = .down → 0 < s.cnt ∧ s.cnt ≤ s.arr)) := by
  simp [State.TimerOk, show ¬ s.arr = 0#16 from harr, hmode]

section operations
variable {s : State} (h : s.Inv)
include h

/-! ### Responses, flags and the data register -/

theorem State.Inv.done : s.done.Inv := h.congr rfl
theorem State.Inv.answer (v : Word) : (s.answer v).Inv := h.congr rfl
theorem State.Inv.fetched : s.fetched.Inv := h.congr rfl

/-- The invariant reads EOC and TEIF alone of the flags. -/
theorem State.Inv.setFlag {f : Flag} (heoc : Flag.eoc.code ≠ f.code := by decide) (hteif : Flag.teif.code ≠ f.code := by decide) :
    (s.setFlag f).Inv where
  __ := h
  geometry := { h.geometry with }
  events := h.events.setFlag heoc fun hself => absurd hself hteif

theorem State.Inv.setFlagIf (c : Bool) {f : Flag} (heoc : Flag.eoc.code ≠ f.code := by decide)
    (hteif : Flag.teif.code ≠ f.code := by decide) : (s.setFlagIf c f).Inv :=
  ite_keeps (h.setFlag heoc hteif) h

theorem State.Inv.clearFlags (m : BitVec 11) : (s.clearFlags m).Inv where
  __ := h
  geometry := { h.geometry with }
  events :=
    { h.events with
      eocUnconsumed := fun hset => h.events.eocUnconsumed (State.flag_of_flag_clearFlags hset)
      errorStopped := fun hset => h.events.errorStopped (State.flag_of_flag_clearFlags hset) }

/-- `consumeDR()` clears EOC with the mark it depends on (spec/41_sample_source.md R266). -/
theorem State.Inv.consumeDR : s.consumeDR.Inv where
  __ := h
  geometry := { h.geometry with }
  events :=
    { h.events with
      eocUnconsumed := fun hset => by
        have hclear : s.consumeDR.flag .eoc = false := (s.consumeDR_bit 0).trans (Bool.and_false _)
        cases hclear.symm.trans hset
      errorStopped := fun hset => h.events.errorStopped (State.flag_of_flag_clearFlags hset) }

/-- A transfer error stops the engine and drops its request (spec/42_transfer_engine.md R300). -/
theorem State.Inv.teFault : s.teFault.Inv where
  __ := h
  geometry := { h.geometry with enabledLegal := fun hen => by cases hen }
  events :=
    { requestEnabled := fun hreq => by cases hreq
      eocUnconsumed := fun hset =>
        h.events.eocUnconsumed ((s.flag_setFlag_of_ne (f := .teif) (g := .eoc) (by decide)).symm.trans hset)
      errorStopped := fun _ => rfl }

/-! ### The update unit's trigger and passes -/

/-- A pass becomes pending: a ring pass on a legal buffer, RING1 in ping-pong mode. -/
theorem State.Inv.setPending {k : TKind} (hlegal : k ≠ .direct → s.legal = true) (hring1 : k = .ring1 → s.ctrl.pp = true) :
    ({ s with trigp := true, tkind := k } : State).Inv where
  __ := h
  geometry :=
    { h.geometry with
      passLegal := fun hlive => hlive.elim (fun hrun => h.geometry.passLegal (.inl hrun)) (fun hpending => hlegal hpending.2)
      pendingRing1 := fun _ => hring1 }
  events := { h.events with }

theorem State.Inv.trigger {k : TKind} (hlegal : k ≠ .direct → s.legal = true) (hring1 : k = .ring1 → s.ctrl.pp = true) :
    (s.trigger k).Inv := by
  have horder : s.trigger k =
      ({ s with trigp := true, tkind := k } : State).setFlagIf (s.trigp || s.ustate == .updating) .uovf := by
    unfold State.trigger State.setFlagIf
    split <;> rfl
  rw [horder]
  exact (h.setPending hlegal hring1).setFlagIf _

theorem State.Inv.triggerIf {c : Bool} {k : TKind} (hlegal : c = true → k ≠ .direct → s.legal = true)
    (hring1 : c = true → k = .ring1 → s.ctrl.pp = true) : (s.triggerIf c k).Inv := by
  cases c with
  | true => exact h.trigger (hlegal rfl) (hring1 rfl)
  | false => exact h

/-- A ring pass starts on the ring its trigger was given (spec/45_update_unit.md R402). -/
theorem State.Inv.startPass (hen : s.updStartEnabled = true) : s.startPass.Inv := by
  obtain ⟨htrigp, hkind⟩ := State.pendingRing_of_updStartEnabled hen
  have hlegal : s.legal = true := h.geometry.passLegal (.inr ⟨htrigp, hkind⟩)
  have hbase := s.ringBase_eq s.tkind
  exact
    { h with
      geometry :=
        { h.geometry with
          passLegal := fun _ => hlegal
          running := fun _ => ⟨Nat.zero_le _, by
            by_cases hring1 : s.tkind = .ring1
            · exact .inr ⟨hbase.trans (if_pos hring1), h.geometry.pendingRing1 htrigp hring1⟩
            · exact .inl (hbase.trans (if_neg hring1))⟩
          pendingRing1 := fun hpending => by cases hpending
          ucurRange := Nat.zero_le _
          ubaseRange := by
            have hmax := State.rlen_le_of_legal hlegal
            rw [State.startPass_ubase, hbase]
            split <;> omega }
      events := { h.events with }
      sum := Nat.zero_le _ }

/-- The running pass ends, complete (R404) or by a read error (R407). -/
theorem State.Inv.endPass : ({ s with ustate := .idle } : State).Inv where
  __ := h
  geometry :=
    { h.geometry with
      passLegal := fun hlive => hlive.elim (fun hrun => by cases hrun) (fun hpending => h.geometry.passLegal (.inr hpending))
      running := fun hrun => by cases hrun }
  events := { h.events with }

/-- The pending pass is taken away. -/
theorem State.Inv.dropPending : ({ s with trigp := false } : State).Inv where
  __ := h
  geometry :=
    { h.geometry with
      passLegal := fun hlive => hlive.elim (fun hrun => h.geometry.passLegal (.inl hrun)) (fun hpending => by cases hpending.1)
      pendingRing1 := fun hpending => by cases hpending }
  events := { h.events with }

/-- The sum is below 2^24, so a 32-bit word holds the next one (spec/43_filter_mapper.md R332). -/
theorem State.Inv.uacc_lt : s.uacc.toNat < 2 ^ 24 := by
  have hsum : s.uacc.toNat ≤ (2 ^ 16 - 1) * s.ucur := h.sum
  have hucur := h.geometry.ucurRange
  omega

theorem State.Inv.readSlot (hen : s.updReadEnabled = true) : s.readSlot.Inv := by
  obtain ⟨-, hfault⟩ | ⟨-, hread⟩ := s.readSlot_cases
  · rw [hfault]
    exact h.teFault.endPass
  · obtain ⟨hrun, hmore⟩ := State.updReadEnabled_iff.mp hen
    have hmax := State.rlen_le_of_legal (h.geometry.passLegal (.inl hrun))
    obtain ⟨-, hbase⟩ := h.geometry.running hrun
    have hsum : s.uacc.toNat ≤ (2 ^ 16 - 1) * s.ucur := h.sum
    have hslot := Memory.read_lt 2 s.mem (s.slotAddr s.passSlot)
    rw [hread]
    exact
      { h with
        geometry :=
          { h.geometry with
            running := fun _ => ⟨hmore, hbase⟩
            ucurRange := (Nat.succ_le_of_lt hmore).trans hmax }
        events := { h.events with }
        sum := by
          show (BitVec.ofNat 32 _).toNat ≤ (2 ^ 16 - 1) * (s.ucur + 1)
          have hword := Nat.mod_le (s.uacc.toNat + s.mem.read (s.slotAddr s.passSlot) 2) (2 ^ 32)
          rw [BitVec.toNat_ofNat]
          omega }

theorem State.Inv.commit (m : Nat) : (s.commit m).Inv :=
  ((h.setFlagIf (rangeViolated m) (f := .rngf)).setFlag (f := .udf)).congr rfl

theorem State.Inv.finishPass : s.finishPass.Inv := (h.commit _).endPass
theorem State.Inv.directPass : s.directPass.Inv := h.dropPending.consumeDR.commit _

/-! ### The converter -/

theorem State.Inv.noteOverrun : s.noteOverrun.Inv := ite_keeps ((h.setFlag (f := .ovr)).congr rfl) h

/-- The deposit sets EOC with the mark it depends on (spec/41_sample_source.md R261). -/
theorem State.Inv.deposit (x : Sample) : (s.deposit x).Inv where
  __ := h
  geometry := { h.geometry with }
  events :=
    { h.events with
      eocUnconsumed := fun _ => rfl
      errorStopped := fun hset =>
        h.events.errorStopped ((s.flag_setFlag_of_ne (f := .eoc) (g := .teif) (by decide)).symm.trans hset) }

/-- A request is made of an enabled engine only (R267). -/
theorem State.Inv.request : ({ s with dreq := s.dreq || (s.ctrl.mode && s.ctrl.dmaen) } : State).Inv where
  __ := h
  geometry := { h.geometry with }
  events :=
    { h.events with
      requestEnabled := fun hreq => by
        obtain hold | hnew := (Bool.or_eq_true _ _).mp hreq
        · exact h.events.requestEnabled hold
        · exact ((Bool.and_eq_true _ _).mp hnew).2 }

theorem State.Inv.requestService : s.requestService.Inv :=
  h.request.triggerIf (fun _ hkind => absurd rfl hkind) (fun _ hkind => by cases hkind)

theorem State.Inv.conversion (x : Sample) : (s.conversion x).Inv := (h.noteOverrun.deposit x).requestService

/-! ### The transfer -/

section engine
variable (hen : s.ctrl.dmaen = true)
include hen

/-- The engine moves to a slot of its buffer. -/
theorem State.Inv.setWidx {k : Nat} (hk : k < s.bufLen) : ({ s with widx := k } : State).Inv where
  __ := h
  geometry := by
    obtain ⟨hlegal, -⟩ := h.geometry.enabledLegal hen
    obtain ⟨-, hmax⟩ := State.bufLen_of_legal hlegal
    exact { h.geometry with enabledLegal := fun _ => ⟨hlegal, hk⟩, widxRange := Nat.le_of_lt_succ (hk.trans_le hmax) }
  events := { h.events with }

/-- The slot an enabled engine writes next lies in the 32-bit space. -/
theorem State.Inv.storeSlot : s.storeSlot.Inv where
  __ := h
  memory := by
    obtain ⟨hlegal, hwidx⟩ := h.geometry.enabledLegal hen
    obtain ⟨-, -, hhigh⟩ := State.slotAddr_of_legal hlegal hwidx
    exact Memory.wf_write 2 s.mem _ _ h.memory (by have := s.plat.ramHi.isLt; omega)
  geometry := { h.geometry with }
  events := { h.events with requestEnabled := fun hreq => by cases hreq }

theorem State.Inv.halfTransfer (k : Nat) : (s.halfTransfer k).Inv := by
  obtain ⟨hlegal, -⟩ := h.geometry.enabledLegal hen
  exact ite_keeps ((h.setFlag (f := .htif)).triggerIf (fun _ _ => hlegal) (fun _ hkind => by cases hkind)) h

theorem State.Inv.advanceSlot : (s.advanceSlot (s.widx + 1)).Inv := by
  obtain ⟨hlegal, hwidx⟩ := h.geometry.enabledLegal hen
  obtain ⟨hpos, -⟩ := State.bufLen_of_legal hlegal
  unfold State.advanceSlot
  split
  case isTrue =>
    refine ((h.setFlag (f := .tcif)).setWidx hen hpos).triggerIf (fun _ _ => hlegal) (fun _ hkind => ?_)
    cases hpp : s.ctrl.pp with
    | true => exact hpp
    | false => simp [hpp] at hkind
  case isFalse hlast => exact h.setWidx hen (by omega)

end engine

theorem State.Inv.transfer (hen : s.dmaXferEnabled = true) : s.transfer.Inv := by
  obtain ⟨hdmaen, -⟩ := State.dmaXferEnabled_iff.mp hen
  obtain ⟨-, hfault⟩ | ⟨hok, -⟩ := s.transfer_cases
  · rw [hfault]
    exact h.teFault
  · have hstored : s.slotWritten.Inv := (h.consumeDR.setFlagIf _).storeSlot (by simpa using hdmaen)
    have hhalf := hstored.halfTransfer (by simpa using hdmaen) (s.widx + 1)
    have hfull := hhalf.advanceSlot (by simpa using hdmaen)
    rw [State.transfer_eq_of_memOK hok]
    simpa using hfull

/-! ### The timer -/

theorem State.Inv.setCounter {c p : Half} {d : TDir} (ht : ({ s with cnt := c, psccnt := p, tdir := d } : State).TimerOk) :
    ({ s with cnt := c, psccnt := p, tdir := d } : State).Inv where
  __ := h
  geometry := { h.geometry with }
  timer := ht
  events := { h.events with }

theorem State.Inv.setPsccnt {p : Half} (hp : p ≤ s.psc) : ({ s with psccnt := p } : State).Inv :=
  h.setCounter fun hen => by
    obtain ⟨-, hcounter⟩ := h.timer hen
    exact ⟨hp, hcounter⟩

theorem State.Inv.updateEvent : s.updateEvent.Inv := (h.setFlag (f := .uevf)).congr rfl

section counting
variable (harr : s.arr ≠ 0)
include harr

theorem State.Inv.countUp (hmode : s.ctrl.cms = false) : s.countUp.Inv := by
  have ht := (s.timerOk_up harr hmode).mp h.timer
  have hset (c : Half) (hc : c ≤ s.arr) : ({ s with cnt := c } : State).Inv :=
    h.setCounter ((State.timerOk_up { s with cnt := c } harr hmode).mpr fun hen => by
      obtain ⟨hpsc, -, hdir⟩ := ht hen
      exact ⟨hpsc, hc, hdir⟩)
  unfold State.countUp
  split
  case isTrue => exact (hset 0 (Nat.zero_le _)).updateEvent
  case isFalse hlast => exact hset _ (by bv_omega)

theorem State.Inv.countCenter (hmode : s.ctrl.cms = true) : s.countCenter.Inv := by
  have ht := (s.timerOk_center harr hmode).mp h.timer
  have hset (c : Half) (d : TDir) (hrise : s.ctrl.timen = true → d = .up → c < s.arr)
      (hfall : s.ctrl.timen = true → d = .down → 0 < c ∧ c ≤ s.arr) : ({ s with cnt := c, tdir := d } : State).Inv :=
    h.setCounter ((State.timerOk_center { s with cnt := c, tdir := d } harr hmode).mpr fun hen => by
      obtain ⟨hpsc, -, -⟩ := ht hen
      exact ⟨hpsc, hrise hen, hfall hen⟩)
  have hpos : 0 < s.arr := by bv_omega
  unfold State.countCenter
  cases hdir : s.tdir with
  | up =>
    have hcnt (hen : s.ctrl.timen = true) : s.cnt < s.arr := by
      obtain ⟨-, hrise, -⟩ := ht hen
      exact hrise hdir
    refine hset _ _ (fun hen hup => ?_) (fun hen _ => ?_)
    · have hbelow : s.cnt + 1 ≠ s.arr := fun htop => by
        rw [if_pos htop] at hup
        cases hup
      have := hcnt hen
      bv_omega
    · have := hcnt hen
      bv_omega
  | down =>
    have hcnt (hen : s.ctrl.timen = true) : 0 < s.cnt ∧ s.cnt ≤ s.arr := by
      obtain ⟨-, -, hfall⟩ := ht hen
      exact hfall hdir
    simp only
    split
    case isTrue hbottom => exact (hset _ _ (fun _ _ => hbottom.symm ▸ hpos) (fun _ hdown => by cases hdown)).updateEvent
    case isFalse habove =>
      refine hset _ _ (fun _ hup => by cases hup) (fun hen _ => ?_)
      have := hcnt hen
      bv_omega

end counting

theorem State.Inv.count : s.count.Inv := by
  obtain ⟨-, hstill⟩ | ⟨harr, hmode, hup⟩ | ⟨harr, hmode, hcenter⟩ := s.count_cases
  · rw [hstill]
    exact h
  · rw [hup]
    exact h.countUp harr hmode
  · rw [hcenter]
    exact h.countCenter harr hmode

theorem State.Inv.tick : s.tick.Inv := by
  unfold State.tick
  split
  case isTrue hmore => exact h.setPsccnt (by bv_omega)
  case isFalse => exact (h.setPsccnt (Nat.zero_le _)).count

end operations

/-! ### The write of CTRL (spec/40_bus_interface.md R208) -/

theorem State.timEnable_timerOk (s : State) : s.timEnable.TimerOk := by
  have hpos (harr : s.arr ≠ 0) : 0 < s.arr := by bv_omega
  exact fun _ => ⟨Nat.zero_le _, fun _ => ⟨rfl, rfl⟩, fun _ _ => ⟨Nat.zero_le _, rfl⟩, fun harr _ _ => hpos harr,
    fun _ _ hdown => by cases hdown⟩

section writeCtrl
variable {s : State} (w : Ctrl)

/-- CMS is locked while the timer runs on; a timer that starts anew is in its period in either mode. -/
theorem State.TimerOk.beforeEngine (h : s.TimerOk) : (s.beforeEngine w).TimerOk := by
  have hfields : ((s.writeLockedFields w).writeFreeFields w).ctrl.timen = s.ctrl.timen := by simp [State.writeLockedFields_ctrl]
  obtain ⟨hsame, heq⟩ | ⟨-, -, heq⟩ | ⟨-, -, heq⟩ := ((s.writeLockedFields w).writeFreeFields w).writeTimen_cases w.timen
  · rw [State.beforeEngine, heq]
    intro hen
    have hlock : s.timFieldsLocked w = true := s.timFieldsLocked_iff w |>.mpr ⟨hfields.symm.trans hen, hsame.symm.trans hen⟩
    have hkept := h (hfields.symm.trans hen)
    simpa [State.writeLockedFields_ctrl, lockedField_of_locked hlock] using hkept
  · rw [State.beforeEngine, heq]
    exact State.timEnable_timerOk _
  · rw [State.beforeEngine, heq]
    intro hen
    cases hen

theorem State.TimerOk.writeCtrl (h : s.TimerOk) : (s.writeCtrl w).TimerOk := by
  simpa [State.TimerOk, State.writeCtrl_eq_writeDmaen] using h.beforeEngine w

/-- An enable is refused or fails with the engine stopped, and starts with TEIF clear (R292). -/
theorem State.EventsOk.writeDmaen (h : s.EventsOk) (b : Bool) : (s.writeDmaen b).EventsOk := by
  obtain ⟨-, heq⟩ | ⟨hold, -, heq⟩ | ⟨-, -, heq⟩ := s.writeDmaen_cases b
  · rw [heq]
    exact h
  · obtain ⟨-, hen⟩ | ⟨-, -, hen⟩ | ⟨hteif, -, hen⟩ := s.dmaEnable_cases
    · rw [heq, hen]
      exact h.setFlag (by decide) fun _ => hold
    · rw [heq, hen]
      exact h.setFlag (by decide) fun _ => hold
    · rw [heq, hen]
      exact { h with requestEnabled := fun _ => rfl, errorStopped := fun hset => by cases hteif.symm.trans hset }
  · rw [heq]
    exact { h with requestEnabled := fun hreq => (by cases hreq), errorStopped := fun _ => rfl }

theorem State.EventsOk.beforeEngine (h : s.EventsOk) : (s.beforeEngine w).EventsOk where
  requestEnabled := by simpa using h.requestEnabled
  eocUnconsumed := by simpa [s.beforeEngine_flag w (f := .eoc) (by decide)] using h.eocUnconsumed
  errorStopped := by simpa [s.beforeEngine_flag w (f := .teif) (by decide)] using h.errorStopped

/-- PP is locked while a pass is live (R206). -/
theorem State.beforeEngine_passKept : s.PassKept (s.beforeEngine w) := by
  refine ⟨by simp, by simp [State.beforeEngine], by simp [State.beforeEngine], by simp [State.beforeEngine],
    by simp [State.beforeEngine], by simp [State.beforeEngine], fun hlive => ⟨by simp, by simp, ?_⟩⟩
  rw [State.beforeEngine_pp]
  exact lockedField_of_locked (by simp [State.ppLocked, hlive])

/-- PP is locked while the engine stays enabled, and an engine that starts does so at slot 0 of a legal buffer (R292). -/
theorem State.GeometryOk.writeCtrl (h : s.GeometryOk) : (s.writeCtrl w).GeometryOk := by
  have hkept := s.beforeEngine_passKept w
  have hwidx := s.beforeEngine_widx w
  have hrange : (s.beforeEngine w).widx ≤ 511 := hwidx.symm ▸ h.widxRange
  rw [State.writeCtrl_eq_writeDmaen]
  obtain ⟨hsame, heq⟩ | ⟨hold, -, heq⟩ | ⟨-, -, heq⟩ := (s.beforeEngine w).writeDmaen_cases w.dmaen
  · rw [heq]
    refine h.of_passKept hkept (fun hen => ?_) hrange
    have hold : s.ctrl.dmaen = true := (s.beforeEngine_dmaen w).symm.trans hen
    have hpp : (s.beforeEngine w).ctrl.pp = s.ctrl.pp :=
      (s.beforeEngine_pp w).trans (lockedField_of_locked ((s.ppLocked_iff w).mpr (.inl ⟨hold, hsame.symm.trans hen⟩)))
    obtain ⟨hlegal, hslot⟩ := h.enabledLegal hold
    exact ⟨(State.legal_congr (by simp) (by simp) (by simp) hpp).trans hlegal,
      (State.bufLen_congr (by simp) hpp).symm ▸ hwidx.symm ▸ hslot⟩
  · obtain ⟨-, hen⟩ | ⟨-, -, hen⟩ | ⟨-, hlegal, hen⟩ := (s.beforeEngine w).dmaEnable_cases
    · rw [heq, hen]
      exact h.of_passKept hkept (fun hon => by cases hold.symm.trans hon) hrange
    · rw [heq, hen]
      exact h.of_passKept hkept (fun hon => by cases hold.symm.trans hon) hrange
    · rw [heq, hen]
      exact h.of_passKept hkept (fun _ => ⟨hlegal, (State.bufLen_of_legal hlegal).1⟩) (Nat.zero_le _)
  · rw [heq]
    exact h.of_passKept hkept (fun hon => by cases hon) hrange

theorem State.Inv.writeCtrl (h : s.Inv) : (s.writeCtrl w).Inv where
  memory := by simpa using h.memory
  geometry := h.geometry.writeCtrl w
  timer := h.timer.writeCtrl w
  events := { (h.events.beforeEngine w).writeDmaen w.dmaen with }
  sum := by simpa [State.SumOk] using h.sum

end writeCtrl

/-! ### Writes under a lock (spec/40_bus_interface.md R205) -/

theorem lockedWrite_inv {α : Type} [DecidableEq α] {set : α → State} {locked : Bool} {old new : α} {s t : State}
    (e : lockedWrite set locked old new = .next t) (h : s.Inv) (hold : set old = s) (hnew : locked = false → (set new).Inv) :
    t.Inv := by
  refine next_keeps e (State.Inv.done ?_)
  cases locked with
  | true => exact State.Inv.setFlagIf (hold.symm ▸ h) _
  | false => exact hnew rfl

/-- The ring registers may change while no pass is live and the engine is disabled (R206). -/
theorem State.Inv.setRing {s : State} (h : s.Inv) (hfree : s.dmaLocked = false) (base : Word) (len : BitVec 9) :
    ({ s with rbase := base, rlen := len } : State).Inv := by
  obtain ⟨hoff, hidle⟩ := (Bool.or_eq_false_iff).mp hfree
  have hkept : s.PassKept { s with rbase := base, rlen := len } :=
    ⟨rfl, rfl, rfl, rfl, rfl, rfl, fun hlive => by cases hidle.symm.trans hlive⟩
  exact
    { h with
      geometry := h.geometry.of_passKept hkept (fun hon => by cases hoff.symm.trans hon) h.geometry.widxRange
      events := { h.events with } }

/-- The period may change while the timer is disabled (R206). -/
theorem State.Inv.setPeriod {s : State} (h : s.Inv) (hfree : s.timLocked = false) (arr psc : Half) :
    ({ s with arr := arr, psc := psc } : State).Inv where
  __ := h
  geometry := { h.geometry with }
  timer := fun hon => by cases hfree.symm.trans hon
  events := { h.events with }

/-! ### Reset and the host's memory writes -/

/-- Every register at its reset value meets the invariant on a canonical memory (spec/70_reset_and_hazards.md R601). -/
theorem State.resetBlock_inv {s : State} (hmem : Memory.wf s.mem = true) : s.resetBlock.Inv where
  memory := hmem
  geometry :=
    { enabledLegal := fun hon => by cases hon
      passLegal := fun hlive => hlive.elim (fun hrun => by cases hrun) (fun hpending => by cases hpending.1)
      running := fun hrun => by cases hrun
      pendingRing1 := fun hpending => by cases hpending
      widxRange := Nat.zero_le _
      ucurRange := Nat.zero_le _
      ubaseRange := Nat.zero_le _ }
  timer := fun hon => by cases hon
  events :=
    { requestEnabled := fun hreq => by cases hreq
      eocUnconsumed := fun heoc => absurd (show (0#11).getLsbD 0 = true from heoc) (by decide)
      errorStopped := fun _ => rfl }
  sum := Nat.zero_le _

theorem State.Inv.hostWrite {s : State} (h : s.Inv) {a n : Nat} (v : Nat) (hok : s.memOK a n = true) :
    ({ s with mem := s.mem.write a n v, resp := .memDone } : State).Inv where
  __ := h
  memory := Memory.wf_write n s.mem a v h.memory (State.memOK_fits hok)
  geometry := { h.geometry with }
  events := { h.events with }

/-! ### Every operation -/

/-- An operation that answers keeps the invariant. -/
theorem exec_inv {i : Instr} {s t : State} (h : s.Inv) (e : exec i s = .next t) : t.Inv := by
  cases i with
  -- A register read, a write of a register with no lock that the invariant does not read, an ignored write, and a bus error.
  | rdCtrl | rdAdccfg | rdRbase | rdRlen | rdArr | rdPsc | rdCcr | rdCnt | rdSr | rdIer | rdStat | rdFilt | rdOvrcnt
  | rdRsv038 | rdRsv040 | rdRsv080 | rdRsv100 | rdRsv200 | wrCnt | wrIer | wrDr | wrStat | wrFilt | wrOvrcnt
  | wrRsv038 | wrRsv040 | wrRsv080 | wrRsv100 | wrRsv200 | subWord | oddOffset | twoModFour => exact next_keeps e (h.congr rfl)
  | rdDr => exact next_keeps e (h.consumeDR.answer _)
  | wrSr => exact next_keeps e (h.clearFlags _).done
  | wrCtrl => exact next_keeps e (h.writeCtrl _).done
  | wrAdccfg => exact lockedWrite_inv ((exec_wrAdccfg _ _).symm.trans e) h rfl (fun _ => h.congr rfl)
  | wrRbase => exact lockedWrite_inv ((exec_wrRbase _ _).symm.trans e) h rfl (fun hfree => h.setRing hfree _ _)
  | wrRlen => exact lockedWrite_inv ((exec_wrRlen _ _).symm.trans e) h rfl (fun hfree => h.setRing hfree _ _)
  | wrArr => exact lockedWrite_inv ((exec_wrArr _ _).symm.trans e) h rfl (fun hfree => h.setPeriod hfree _ _)
  | wrPsc => exact lockedWrite_inv ((exec_wrPsc _ _).symm.trans e) h rfl (fun hfree => h.setPeriod hfree _ _)
  | wrCcr => exact next_keeps e (State.Inv.done (ite_keeps h.setFlag (h.congr rfl)))
  | adcEoc => exact guarded_keeps e (ite_keeps (h.conversion _) h)
  | dmaXfer => exact next_keeps e (iteInduction h.transfer (fun _ => h))
  | updStart => exact next_keeps e (iteInduction h.startPass (fun _ => h))
  | updDirect => exact next_keeps e (ite_keeps h.directPass h)
  | updRead => exact next_keeps e (iteInduction h.readSlot (fun _ => h))
  | updFinish => exact next_keeps e (ite_keeps h.finishPass h)
  | timTick => exact next_keeps e (ite_keeps h.tick h)
  | reset => exact next_keeps e (State.resetBlock_inv h.memory)
  | hostMemRd => exact guarded_keeps e (h.congr rfl)
  | hostMemWr => exact guarded_keeps e (iteInduction (h.hostWrite _) (fun _ => h.congr rfl))
  -- The forms that spell no operation answer no next state (R150).
  | refusedZ1xx | refusedZ01x | refusedZ001 | refusedSz11 | refusedEvt0 | refusedEvtB | refusedEvtCF => cases e

/-- Settles O55: a step that answers has decoded an operation, and every operation keeps the invariant. -/
theorem everyStepKeepsTheInvariant : Obligations.EveryStepKeepsTheInvariant := by
  intro s t h e
  cases hdecode : decode s.nextInput.label with
  | ok i => exact exec_inv h.fetched ((step_of_decode_ok hdecode).symm.trans e)
  | error r => cases (step_of_decode_error hdecode).symm.trans e

/-! ### The block's accesses (spec/42_transfer_engine.md R302, spec/20_memory.md R107) -/

/-- The running pass reads slots of the buffer. -/
theorem State.GeometryOk.passSlot_lt {s : State} (h : s.GeometryOk) (hrun : s.ustate = .updating) (hmore : s.ucur < s.rlen.toNat) :
    s.ubase + s.ucur < s.bufLen := by
  obtain ⟨-, hring0 | ⟨hring1, hpp⟩⟩ := h.running hrun
  · unfold State.bufLen
    split <;> omega
  · rw [State.bufLen, if_pos hpp]
    omega

/-- Settles O56: the engine's slot and the pass's are slots of the legal buffer, and the sum is bounded by its slots. -/
theorem blockAccessesStayInTheBuffer : Obligations.BlockAccessesStayInTheBuffer := by
  intro s h
  refine ⟨fun hen => ?_, fun hen => ?_, h.uacc_lt⟩
  · obtain ⟨hdmaen, -⟩ := State.dmaXferEnabled_iff.mp hen
    obtain ⟨hlegal, hslot⟩ := h.geometry.enabledLegal hdmaen
    exact ⟨hslot, State.slotAddr_of_legal hlegal hslot⟩
  · obtain ⟨hrun, hmore⟩ := State.updReadEnabled_iff.mp hen
    have hslot := h.geometry.passSlot_lt hrun hmore
    exact ⟨hslot, State.slotAddr_of_legal (h.geometry.passLegal (.inl hrun)) hslot⟩

end Sys2Proof.Machine
end

section
/-! PROOFS. The mapper and the filter (spec/43_filter_mapper.md): the mapper's laws (R336, R337) and the filter's (R339). -/

namespace Sys2Proof.Machine

/-! ### The mapper -/

theorem dutyMap_mono {f g : Nat} (h : f ≤ g) (arr : Nat) : dutyMap f arr ≤ dutyMap g arr :=
  Nat.div_le_div_right (Nat.mul_le_mul_right _ h)

theorem dutyMap_zero (arr : Nat) : dutyMap 0 arr = 0 := by simp [dutyMap]

/-- R337: full scale is the whole period less its 4096th part, rounded up. -/
theorem dutyMap_fullScale (arr : Nat) : dutyMap 4095 arr = (arr + 1) - (arr + 1 + 4095) / 4096 := by
  unfold dutyMap
  omega

/-- R337: full scale reaches ARR just when the part rounded up is 1. -/
theorem dutyMap_fullScale_eq_iff (arr : Nat) : dutyMap 4095 arr = arr ↔ arr + 1 ≤ 4096 := by
  rw [dutyMap_fullScale]
  omega

theorem dutyMap_identity (f : Nat) : dutyMap f 4095 = f := Nat.mul_div_cancel f (by decide)

/-- Settles O45, from one law of the mapper per clause; with ARR = 0 the range leaves only 0. -/
theorem mapperLaws : Obligations.MapperLaws :=
  ⟨fun _ _ => dutyMap_le, fun _ _ arr h => dutyMap_mono h arr, dutyMap_zero, dutyMap_fullScale, dutyMap_fullScale_eq_iff,
    fun _ h => Nat.le_zero.mp (dutyMap_le h), dutyMap_identity⟩

/-! ### The filter -/

/-- R331: a window with a slot has the truncated quotient for its mean. -/
theorem mean_of_ne_zero {n : Nat} (h : n ≠ 0) (acc : Nat) : mean acc n = acc / n := if_neg h

/-- R333: a legal value is not clamped. -/
theorem clampR_of_le {m : Nat} (h : m ≤ 4095) : clampR m = m := by rw [clampR_eq_min, Nat.min_eq_left h]

/-- R339: the truncated mean of legal samples is legal. -/
theorem sum_div_length_le {vs : List Nat} (h : ∀ v ∈ vs, v ≤ 4095) : vs.sum / vs.length ≤ 4095 :=
  Nat.div_le_of_le_mul (List.sum_le_card_nsmul vs 4095 h)

theorem filterOf_le (vs : List Nat) : filterOf vs ≤ 4095 := clampR_le _

theorem filterOf_eq_truncatedMean {vs : List Nat} (hne : vs ≠ []) (h : ∀ v ∈ vs, v ≤ 4095) :
    filterOf vs = vs.sum / vs.length := by
  rw [filterOf, mean_of_ne_zero (mt List.length_eq_zero_iff.mp hne), clampR_of_le (sum_div_length_le h)]

/-- The filter sees the slots by their sum and their number, and neither depends on their order. -/
theorem filterOf_perm {vs ws : List Nat} (h : vs.Perm ws) : filterOf vs = filterOf ws := by
  rw [filterOf, filterOf, h.sum_eq, h.length_eq]

/-- Settles O46: no legal sample is clamped, and the sum and the number of the slots are those of any order. -/
theorem filterLaws : Obligations.FilterLaws :=
  ⟨fun vs hne h => ⟨filterOf_eq_truncatedMean hne h, filterOf_le vs⟩, fun _ _ => filterOf_perm, filterOf_le⟩

end Sys2Proof.Machine
end

section
/-! PROOFS. The actuation sink (spec/44_actuation_sink.md): what one tick does in each mode (R362 to R366), the pin (R367), the start and
the stop of the timer by a CTRL write (R360, R361), and who writes the comparator's value, the period and the mode (R370, R371). -/

namespace Sys2Proof.Machine

/-! ### One count (R363 to R366) -/

/-- A counter below a bound does not wrap in one step. -/
theorem succ_toNat_of_lt {a b : Half} (h : a.toNat < b.toNat) : (a + 1).toNat = a.toNat + 1 := by bv_omega

theorem pred_toNat_of_pos {a : Half} (h : 0 < a.toNat) : (a - 1).toNat = a.toNat - 1 := by bv_omega

/-- An update event loads the comparator from the preload and sets UEVF, bit 9 (R366). -/
theorem State.updateEvent_eq (s : State) : s.updateEvent = { s with ccra := s.ccr, sr := s.sr ||| 0x200 } := by
  rw [State.updateEvent, State.setFlag, Flag.mask_uevf]
  rfl

theorem State.count_of_arr_eq_zero {s : State} (harr : s.arr = 0) : s.count = s := if_pos harr

section count
variable {s : State} (harr : 1 ≤ s.arr.toNat)
include harr

theorem State.arr_ne_zero_of_pos : s.arr ≠ 0 := by bv_omega

section up
variable (hmode : s.ctrl.cms = false)
include hmode

theorem State.count_up : s.count = s.countUp := by
  rw [State.count, if_neg (State.arr_ne_zero_of_pos harr), hmode]
  rfl

theorem State.count_up_of_lt (h : s.cnt.toNat < s.arr.toNat) : s.count = { s with cnt := s.cnt + 1 } :=
  (State.count_up harr hmode).trans (if_neg (Nat.not_le.mpr h))

/-- The period boundary of up-counting mode (R363). -/
theorem State.count_up_of_le (h : s.arr.toNat ≤ s.cnt.toNat) :
    s.count = { s with cnt := 0, ccra := s.ccr, sr := s.sr ||| 0x200 } :=
  (State.count_up harr hmode).trans ((if_pos h).trans (State.updateEvent_eq _))

end up

section center
variable (hmode : s.ctrl.cms = true)
include hmode

theorem State.count_center : s.count = s.countCenter := by
  rw [State.count, if_neg (State.arr_ne_zero_of_pos harr), hmode]
  rfl

/-- A rising counter turns when it comes to ARR (R364). -/
theorem State.count_rising (hdir : s.tdir = .up) (h : s.cnt.toNat < s.arr.toNat) :
    s.count = { s with cnt := s.cnt + 1, tdir := if s.cnt.toNat + 1 = s.arr.toNat then .down else .up } := by
  have htop : s.cnt + 1 = s.arr ↔ s.cnt.toNat + 1 = s.arr.toNat := by
    rw [← succ_toNat_of_lt h, BitVec.toNat_inj]
  simp only [State.count_center harr hmode, State.countCenter, hdir, htop]

theorem State.count_falling (hdir : s.tdir = .down) (h : 1 < s.cnt.toNat) : s.count = { s with cnt := s.cnt - 1 } := by
  have habove : ¬ s.cnt - 1 = 0 := by bv_omega
  simp only [State.count_center harr hmode, State.countCenter, hdir, if_neg habove]

/-- The period boundary of center-aligned mode (R364). -/
theorem State.count_falling_of_eq_one (hdir : s.tdir = .down) (h : s.cnt.toNat = 1) :
    s.count = { s with cnt := 0, tdir := .up, ccra := s.ccr, sr := s.sr ||| 0x200 } := by
  have hbottom : s.cnt - 1 = 0 := by bv_omega
  simp only [State.count_center harr hmode, State.countCenter, hdir, hbottom, if_true, State.updateEvent_eq]

end center

end count

/-! ### One tick (R362) -/

section tick
variable {s : State}

theorem exec_timTick_of_enabled (hen : s.enabledNow .timTick = true) : exec .timTick s = .next s.tick :=
  congrArg Host.Outcome.next (if_pos hen)

theorem State.tick_of_psccnt_lt (h : s.psccnt.toNat < s.psc.toNat) : s.tick = { s with psccnt := s.psccnt + 1 } := if_pos h

theorem State.tick_of_psc_le (h : s.psc.toNat ≤ s.psccnt.toNat) : s.tick = ({ s with psccnt := 0 } : State).count :=
  if_neg (Nat.not_lt.mpr h)

/-- A tick that counts, by what the count does. -/
theorem exec_timTick_counts {t : State} (hen : s.enabledNow .timTick = true) (hpsc : s.psc.toNat ≤ s.psccnt.toNat)
    (h : ({ s with psccnt := 0 } : State).count = t) : exec .timTick s = .next t := by
  rw [exec_timTick_of_enabled hen, State.tick_of_psc_le hpsc, h]

end tick

/-- Settles O36: a tick counts in the prescaler or, there, in the counter, which does not move when ARR is 0. -/
theorem tickAdvancesThePrescaler : Obligations.TickAdvancesThePrescaler := fun _ hen =>
  ⟨fun hlt => (exec_timTick_of_enabled hen).trans (congrArg _ (State.tick_of_psccnt_lt hlt)),
    fun hle harr => exec_timTick_counts hen hle (State.count_of_arr_eq_zero harr)⟩

/-- Settles O37, by the counter's place against ARR. -/
theorem upCountingWrapsAtArr : Obligations.UpCountingWrapsAtArr := fun s hen hpsc hmode harr =>
  ⟨fun htop => exec_timTick_counts hen hpsc (State.count_up_of_le (s := { s with psccnt := 0 }) harr hmode htop),
    fun hbelow => ⟨_, exec_timTick_counts hen hpsc (State.count_up_of_lt (s := { s with psccnt := 0 }) harr hmode hbelow),
      succ_toNat_of_lt hbelow⟩⟩

/-- Settles O38, by the direction and, falling, by the counter's place above 0. -/
theorem centerAlignedCountingTurnsAtBothEnds : Obligations.CenterAlignedCountingTurnsAtBothEnds := by
  intro s hen hpsc hmode harr
  refine ⟨fun hup hbelow => ⟨_, exec_timTick_counts hen hpsc ?_, succ_toNat_of_lt hbelow⟩,
    fun hdown habove => ⟨_, exec_timTick_counts hen hpsc ?_, pred_toNat_of_pos (Nat.zero_lt_of_lt habove)⟩,
    fun hdown hone => exec_timTick_counts hen hpsc ?_⟩
  · exact State.count_rising (s := { s with psccnt := 0 }) harr hmode hup hbelow
  · exact State.count_falling (s := { s with psccnt := 0 }) harr hmode hdown habove
  · exact State.count_falling_of_eq_one (s := { s with psccnt := 0 }) harr hmode hdown hone

/-! ### The pin (R367) -/

section pin
variable {s : State}

theorem State.pwmOut_of_disabled (hoe : s.ctrl.oe = false) : s.pwmOut = s.ctrl.pol := by simp [State.pwmOut, hoe]

theorem State.pwmOut_of_lt (hoe : s.ctrl.oe = true) (h : s.cnt.toNat < s.ccra.toNat) : s.pwmOut = !s.ctrl.pol := by
  have hocref : s.ocref = true := decide_eq_true h
  simp [State.pwmOut, hoe, hocref]

theorem State.pwmOut_of_le (hoe : s.ctrl.oe = true) (h : s.ccra.toNat ≤ s.cnt.toNat) : s.pwmOut = s.ctrl.pol := by
  have hocref : s.ocref = false := decide_eq_false (Nat.not_lt.mpr h)
  simp [State.pwmOut, hoe, hocref]

/-- An enabled output is active below the comparator's value. -/
theorem State.outputActive_iff (hoe : s.ctrl.oe = true) : s.outputActive = true ↔ s.cnt.toNat < s.ccra.toNat := by
  by_cases h : s.cnt.toNat < s.ccra.toNat
  · simp [State.outputActive, State.pwmOut_of_lt hoe h, h]
  · simp [State.outputActive, State.pwmOut_of_le hoe (Nat.not_lt.mp h), h]

end pin

/-- Settles O44, by OE and the counter's place against CCRA. -/
theorem pinFollowsTheComparator : Obligations.PinFollowsTheComparator := fun _ =>
  ⟨State.pwmOut_of_disabled, State.pwmOut_of_lt, State.pwmOut_of_le⟩

/-! ### The timer of a CTRL write (R360, R361) -/

section writeCtrl
variable {s : State} {w : Ctrl}

@[simp] theorem State.writeCtrl_timen (s : State) (w : Ctrl) : (s.writeCtrl w).ctrl.timen = w.timen :=
  congrArg (·.timen) (s.writeCtrl_ctrl w :)

/-- A CTRL write comes to the timer's enable bit with TIMEN as it was. -/
theorem State.writeFields_timen (s : State) (w : Ctrl) :
    ((s.writeLockedFields w).writeFreeFields w).ctrl.timen = s.ctrl.timen := by simp [State.writeLockedFields_ctrl]

theorem State.writeTimen_on (h : s.ctrl.timen = false) : s.writeTimen true = s.timEnable := by simp [State.writeTimen, h]

/-- The timer starts at 0, counting up, with the preload in the comparator (R360). -/
theorem State.writeCtrl_starts (hold : s.ctrl.timen = false) (hnew : w.timen = true) : (s.writeCtrl w).cnt = 0 ∧
    (s.writeCtrl w).psccnt = 0 ∧ (s.writeCtrl w).tdir = .up ∧ (s.writeCtrl w).ccra = s.ccr := by
  have henable : s.beforeEngine w = ((s.writeLockedFields w).writeFreeFields w).timEnable := by
    rw [State.beforeEngine, hnew, State.writeTimen_on ((s.writeFields_timen w).trans hold)]
  simp [State.writeCtrl_eq_writeDmaen, henable]

/-- A CTRL write that does not start the timer leaves its state: it writes TIMEN at most (R361). -/
theorem State.writeCtrl_keepsCounter (h : s.ctrl.timen = true ∨ w.timen = false) : (s.writeCtrl w).cnt = s.cnt ∧
    (s.writeCtrl w).psccnt = s.psccnt ∧ (s.writeCtrl w).tdir = s.tdir ∧ (s.writeCtrl w).ccra = s.ccra := by
  obtain ⟨-, heq⟩ | ⟨hold, hnew, -⟩ | ⟨-, -, heq⟩ := ((s.writeLockedFields w).writeFreeFields w).writeTimen_cases w.timen
  · simp [State.writeCtrl, heq]
  · rw [s.writeFields_timen] at hold
    simp [hold, hnew] at h
  · simp [State.writeCtrl, heq]

/-- CMS and POL are locked while the timer stays enabled (spec/40_bus_interface.md R206). -/
theorem State.writeCtrl_keepsMode (hold : s.ctrl.timen = true) (hnew : w.timen = true) :
    (s.writeCtrl w).ctrl.cms = s.ctrl.cms ∧ (s.writeCtrl w).ctrl.pol = s.ctrl.pol := by
  have hlock : s.timFieldsLocked w = true := (s.timFieldsLocked_iff w).mpr ⟨hold, hnew⟩
  exact ⟨(congrArg Ctrl.cms (s.writeCtrl_ctrl w)).trans (lockedField_of_locked hlock),
    (congrArg Ctrl.pol (s.writeCtrl_ctrl w)).trans (lockedField_of_locked hlock)⟩

end writeCtrl

/-- Settles O15, by the old and the written TIMEN; UEVF, bit 9, is not a flag of a CTRL write. -/
theorem writeCtrlStartsAndStopsTheTimer : Obligations.WriteCtrlStartsAndStopsTheTimer := fun s d =>
  ⟨_, rfl, s.writeCtrl_timen _, State.writeCtrl_starts (w := Ctrl.ofWord d), State.writeCtrl_keepsCounter (w := Ctrl.ofWord d),
    s.writeCtrl_bit_of_ne (Ctrl.ofWord d) (by decide) (by decide)⟩

/-! ### Who writes the comparator's value, the period and the mode (R370, R371) -/

/-- `t` has the comparator's value as `s` has it and, of a running timer, the period and the mode. -/
def State.SameTimer (s t : State) : Prop :=
  t.ccra = s.ccra ∧
    (s.ctrl.timen = true → t.arr = s.arr ∧ t.psc = s.psc ∧ t.ctrl.cms = s.ctrl.cms ∧ t.ctrl.pol = s.ctrl.pol)

section sameTimer
variable (s : State)

theorem State.sameTimer_refl : s.SameTimer s := ⟨rfl, fun _ => ⟨rfl, rfl, rfl, rfl⟩⟩

theorem State.conversion_sameTimer (x : Sample) : s.SameTimer (s.conversion x) := by simp [State.SameTimer]
theorem State.directPass_sameTimer : s.SameTimer s.directPass := by simp [State.SameTimer]
theorem State.finishPass_sameTimer : s.SameTimer s.finishPass := by simp [State.SameTimer]
theorem State.setFlagIf_sameTimer (c : Bool) (f : Flag) : s.SameTimer (s.setFlagIf c f) := by simp [State.SameTimer]

/-- A transfer writes DMAEN alone of CTRL, and that when it fails. -/
theorem State.transfer_sameTimer : s.SameTimer s.transfer := by
  obtain ⟨-, heq⟩ | ⟨-, heq⟩ := s.transfer_cases
  · rw [heq]
    exact s.sameTimer_refl
  · rw [heq]
    simp [State.SameTimer]

theorem State.readSlot_sameTimer : s.SameTimer s.readSlot := by
  obtain ⟨-, heq⟩ | ⟨-, heq⟩ := s.readSlot_cases
  · rw [heq]
    exact s.sameTimer_refl
  · rw [heq]
    exact s.sameTimer_refl

end sameTimer

/-- A write under the TIM lock leaves the comparator's value, and everything but the flags while the timer runs. -/
theorem lockedWrite_sameTimer {set : Half → State} {s t : State} {old new : Half}
    (e : lockedWrite set s.timLocked old new = .next t) (hccra : ∀ v, (set v).ccra = s.ccra) (hold : set old = s) :
    s.SameTimer t := by
  cases hrun : s.ctrl.timen with
  | false => exact next_keeps e ⟨(State.setFlagIf_ccra _ _ _).trans (hccra _), fun hon => by cases hrun.symm.trans hon⟩
  | true =>
    refine next_keeps e ?_
    rw [lockedField_of_locked (show s.timLocked = true from hrun), hold]
    exact s.setFlagIf_sameTimer _ _

/-- An operation that answers keeps the comparator's value and a running timer's period and mode, unless it is one of the three that
write the timer. -/
theorem exec_sameTimer {i : Instr} {s t : State} (h : exec i s = .next t) :
    s.SameTimer t ∨ i = .reset ∨ i = .timTick ∨ ∃ d, i = .wrCtrl d := by
  cases i with
  | reset => exact .inr (.inl rfl)
  | timTick => exact .inr (.inr (.inl rfl))
  | wrCtrl d => exact .inr (.inr (.inr ⟨d, rfl⟩))
  -- A register read, a write of a register with no lock, an ignored write, and a bus error.
  | rdCtrl | rdAdccfg | rdRbase | rdRlen | rdArr | rdPsc | rdCcr | rdCnt | rdSr | rdIer | rdDr | rdStat | rdFilt | rdOvrcnt
  | rdRsv038 | rdRsv040 | rdRsv080 | rdRsv100 | rdRsv200 | wrCnt | wrSr | wrIer | wrDr | wrStat | wrFilt | wrOvrcnt
  | wrRsv038 | wrRsv040 | wrRsv080 | wrRsv100 | wrRsv200 | subWord | oddOffset | twoModFour =>
    exact .inl (next_keeps h s.sameTimer_refl)
  -- A write under another unit's lock, which may raise CFGE beside the field (R205).
  | wrAdccfg | wrRbase | wrRlen => exact .inl (next_keeps h (State.setFlagIf_sameTimer _ _ _))
  | wrArr => exact .inl (lockedWrite_sameTimer ((exec_wrArr _ _).symm.trans h) (fun _ => rfl) rfl)
  | wrPsc => exact .inl (lockedWrite_sameTimer ((exec_wrPsc _ _).symm.trans h) (fun _ => rfl) rfl)
  | wrCcr =>
    refine .inl (next_keeps h ?_)
    exact ite_keeps (P := fun u => s.SameTimer u.done) s.sameTimer_refl s.sameTimer_refl
  | adcEoc => exact .inl (guarded_keeps h (ite_keeps (s.conversion_sameTimer _) s.sameTimer_refl))
  | dmaXfer => exact .inl (next_keeps h (ite_keeps s.transfer_sameTimer s.sameTimer_refl))
  | updStart => exact .inl (next_keeps h (ite_keeps s.sameTimer_refl s.sameTimer_refl))
  | updDirect => exact .inl (next_keeps h (ite_keeps s.directPass_sameTimer s.sameTimer_refl))
  | updRead => exact .inl (next_keeps h (ite_keeps s.readSlot_sameTimer s.sameTimer_refl))
  | updFinish => exact .inl (next_keeps h (ite_keeps s.finishPass_sameTimer s.sameTimer_refl))
  | hostMemRd => exact .inl (guarded_keeps h s.sameTimer_refl)
  | hostMemWr => exact .inl (guarded_keeps h (ite_keeps s.sameTimer_refl s.sameTimer_refl))
  -- The forms that spell no operation answer no next state (R150).
  | refusedZ1xx | refusedZ01x | refusedZ001 | refusedSz11 | refusedEvt0 | refusedEvtB | refusedEvtCF => cases h

/-- `t` has the comparator's value of `s`, or an update event has loaded it from the preload (R366). -/
def State.KeepsOrReloads (s t : State) : Prop := t.ccra = s.ccra ∨ (t.ccra = s.ccr ∧ t.flag .uevf = true)

section reload
variable (s : State)

theorem State.keepsOrReloads_refl : s.KeepsOrReloads s := .inl rfl

theorem State.updateEvent_reloads : s.KeepsOrReloads s.updateEvent := .inr ⟨rfl, s.flag_setFlag .uevf⟩

theorem State.countUp_keepsOrReloads : s.KeepsOrReloads s.countUp :=
  ite_keeps (State.updateEvent_reloads { s with cnt := 0 }) s.keepsOrReloads_refl

theorem State.countCenter_keepsOrReloads : s.KeepsOrReloads s.countCenter := by
  unfold State.countCenter
  split
  · exact s.keepsOrReloads_refl
  · exact ite_keeps (State.updateEvent_reloads { s with cnt := s.cnt - 1, tdir := .up }) s.keepsOrReloads_refl

theorem State.count_keepsOrReloads : s.KeepsOrReloads s.count :=
  ite_keeps s.keepsOrReloads_refl (ite_keeps s.countCenter_keepsOrReloads s.countUp_keepsOrReloads)

theorem State.tick_keepsOrReloads : s.KeepsOrReloads s.tick :=
  ite_keeps s.keepsOrReloads_refl (State.count_keepsOrReloads { s with psccnt := 0 })

end reload

/-- Settles O47: the operations' frame, and what a tick and a CTRL write do to the comparator's value. -/
theorem onlyTimerStepsWriteTheActiveCompare : Obligations.OnlyTimerStepsWriteTheActiveCompare := by
  intro i s t h hne
  obtain ⟨hsame, -⟩ | rfl | rfl | ⟨d, rfl⟩ := exec_sameTimer h
  · exact absurd hsame hne
  · exact .inl rfl
  · have htick : s.KeepsOrReloads t := next_keeps h (ite_keeps s.tick_keepsOrReloads s.keepsOrReloads_refl)
    exact .inr (.inl ⟨rfl, htick.resolve_left hne⟩)
  · obtain rfl := Host.Outcome.next.inj h
    by_cases hstart : s.ctrl.timen = false ∧ (Ctrl.ofWord d).timen = true
    · obtain ⟨hold, hnew⟩ := hstart
      obtain ⟨-, -, -, hccra⟩ := State.writeCtrl_starts hold hnew
      exact .inr (.inr ⟨d, rfl, hold, hnew, hccra⟩)
    · obtain ⟨-, -, -, hccra⟩ := State.writeCtrl_keepsCounter (s := s) (w := Ctrl.ofWord d) (by simpa [imp_iff_not_or] using hstart)
      exact absurd hccra hne

/-- Settles O51: the operations' frame; a tick has no such field to write, and a CTRL write is under the TIM lock. -/
theorem periodAndModeAreFixedWhileTheTimerRuns : Obligations.PeriodAndModeAreFixedWhileTheTimerRuns := by
  intro i s t h hreset hrun
  obtain ⟨-, hsame⟩ | hi | rfl | ⟨d, rfl⟩ := exec_sameTimer h
  · obtain ⟨harr, hpsc, hmode⟩ := hsame hrun
    exact ⟨harr, hpsc, fun _ => hmode⟩
  · exact absurd hi hreset
  · refine next_keeps (P := fun t => t.arr = s.arr ∧ t.psc = s.psc ∧ (_ → t.ctrl.cms = s.ctrl.cms ∧ t.ctrl.pol = s.ctrl.pol)) h ?_
    split <;> simp
  · obtain rfl := Host.Outcome.next.inj h
    exact ⟨s.writeCtrl_arr _, s.writeCtrl_psc _, fun hon => State.writeCtrl_keepsMode hrun ((s.writeCtrl_timen _).symm.trans hon)⟩

end Sys2Proof.Machine
end

section
/-! PROOFS. Whole periods of the timer (spec/44_actuation_sink.md R362 to R369, spec/70_reset_and_hazards.md R615): the counter after each
tick of a period in both modes, its end, and the counts of a period in which the pin is active. -/

namespace Sys2Proof.Machine

/-! ### Runs of ticks -/

theorem runOps_append (is js : List Instr) (s : State) : runOps (is ++ js) s = (runOps is s).bind (runOps js) := by
  induction is generalizing s with
  | nil => rfl
  | cons i is ih =>
    simp only [List.cons_append, runOps]
    cases exec i s with
    | next t => exact ih t
    | fault r => rfl
    | refused r => rfl

section ticks
variable {s t u : State} {n : Nat}

/-- One tick more after a run of ticks. -/
theorem runOps_ticks_succ (hrun : runOps (ticks n) s = some t) (hen : t.enabledNow .timTick = true) (htick : t.tick = u) :
    runOps (ticks (n + 1)) s = some u := by
  rw [ticks, List.replicate_succ', runOps_append, ← ticks, hrun, Option.bind_some, runOps, exec_timTick_of_enabled hen, htick]
  rfl

/-- With PSC = 0 every tick counts (R362). -/
theorem State.tick_eq_of_count (hcount : s.count = t) (hpsc : s.psc = 0) (hpsccnt : s.psccnt = 0) : s.tick = t := by
  have hsame : ({ s with psccnt := 0 } : State) = s := by rw [← hpsccnt]
  rw [State.tick_of_psc_le (by simp [hpsc]), hsame, hcount]

end ticks

/-! ### Up-counting mode -/

/-- Below a multiple of the prescaler's period, one tick more is one count of the prescaler. -/
theorem succ_div_mod_of_lt {n q : Nat} (h : n % q + 1 < q) : (n + 1) / q = n / q ∧ (n + 1) % q = n % q + 1 := by
  have hn := Nat.mod_add_div n q
  exact (Nat.div_mod_unique (by omega)).mpr ⟨by omega, h⟩

/-- At a multiple of the prescaler's period, one tick more is one count of the counter. -/
theorem succ_div_mod_of_eq {n q : Nat} (h : n % q + 1 = q) : (n + 1) / q = n / q + 1 ∧ (n + 1) % q = 0 := by
  have hn := Nat.mod_add_div n q
  exact (Nat.div_mod_unique (by omega)).mpr ⟨by rw [Nat.mul_add]; omega, by omega⟩

section up
variable {s : State} (hen : s.enabledNow .timTick = true) (hmode : s.ctrl.cms = false) (harr : 1 ≤ s.arr.toNat)
  (hcnt : s.cnt = 0) (hpsccnt : s.psccnt = 0)
include hen hmode harr hcnt hpsccnt

/-- Within the period, the counter after `n` ticks is `n div (PSC + 1)` (R362, R363). -/
theorem runOps_ticks_up (n : Nat) (hn : n < (s.arr.toNat + 1) * (s.psc.toNat + 1)) :
    ∃ c p, runOps (ticks n) s = some { s with cnt := c, psccnt := p } ∧
      c.toNat = n / (s.psc.toNat + 1) ∧ p.toNat = n % (s.psc.toNat + 1) := by
  induction n with
  | zero => exact ⟨s.cnt, s.psccnt, rfl, by simp [hcnt], by simp [hpsccnt]⟩
  | succ n ih =>
    obtain ⟨c, p, hrun, hc, hp⟩ := ih (by omega)
    have hrange : n % (s.psc.toNat + 1) < s.psc.toNat + 1 := Nat.mod_lt n (Nat.succ_pos _)
    by_cases hmore : n % (s.psc.toNat + 1) < s.psc.toNat
    · obtain ⟨hdiv, hrem⟩ := succ_div_mod_of_lt (Nat.succ_lt_succ hmore)
      have hprescale : p.toNat < s.psc.toNat := hp ▸ hmore
      exact ⟨c, p + 1, runOps_ticks_succ hrun hen (State.tick_of_psccnt_lt hprescale), hc.trans hdiv.symm,
        by rw [succ_toNat_of_lt hprescale, hp, hrem]⟩
    · obtain ⟨hdiv, hrem⟩ := succ_div_mod_of_eq (n := n) (q := s.psc.toNat + 1) (by omega)
      have hbelow : c.toNat < s.arr.toNat := by
        have := Nat.div_lt_of_lt_mul (Nat.mul_comm _ _ ▸ hn)
        omega
      have hcount := State.count_up_of_lt (s := { s with cnt := c, psccnt := 0 }) harr hmode hbelow
      exact ⟨c + 1, 0, runOps_ticks_succ hrun hen ((State.tick_of_psc_le (hp ▸ Nat.not_lt.mp hmore)).trans hcount),
        by rw [succ_toNat_of_lt hbelow, hc, hdiv], hrem.symm⟩

/-- The last tick of the period is its update event (R366). -/
theorem runOps_ticks_up_period : runOps (ticks ((s.arr.toNat + 1) * (s.psc.toNat + 1))) s =
    some { s with ccra := s.ccr, sr := s.sr ||| 0x200 } := by
  have hlast : (s.arr.toNat + 1) * (s.psc.toNat + 1) = s.psc.toNat + (s.psc.toNat + 1) * s.arr.toNat + 1 := by ring
  obtain ⟨hdiv, hrem⟩ := (Nat.div_mod_unique (d := s.arr.toNat) (Nat.succ_pos s.psc.toNat)).mpr
    ⟨rfl, Nat.lt_succ_self s.psc.toNat⟩
  obtain ⟨c, p, hrun, hc, hp⟩ := runOps_ticks_up hen hmode harr hcnt hpsccnt
    (s.psc.toNat + (s.psc.toNat + 1) * s.arr.toNat) (by omega)
  have hcount := State.count_up_of_le (s := { s with cnt := c, psccnt := 0 }) harr hmode (hc.trans hdiv).ge
  rw [hlast, runOps_ticks_succ hrun hen ((State.tick_of_psc_le (hp.trans hrem).ge).trans hcount)]
  simp [hcnt, hpsccnt]

end up

/-- Settles O58, by induction on the ticks inside the period and by the tick that ends it. -/
theorem upCountingPeriod : Obligations.UpCountingPeriod := fun _ hen hmode harr hcnt hpsccnt =>
  ⟨runOps_ticks_up hen hmode harr hcnt hpsccnt, runOps_ticks_up_period hen hmode harr hcnt hpsccnt⟩

/-! ### Center-aligned mode -/

section center
variable {s : State} (hen : s.enabledNow .timTick = true) (hmode : s.ctrl.cms = true) (harr : 1 ≤ s.arr.toNat)
  (hpsc : s.psc = 0) (hcnt : s.cnt = 0) (hpsccnt : s.psccnt = 0) (hdir : s.tdir = .up)
include hen hmode harr hpsc hcnt hpsccnt hdir

/-- Within the period, the counter after `n` ticks is `n` up to ARR and as far below ARR as `n` is above it after that (R364). -/
theorem runOps_ticks_center (n : Nat) (hn : n < 2 * s.arr.toNat) :
    ∃ c, runOps (ticks n) s = some { s with cnt := c, tdir := if n < s.arr.toNat then .up else .down } ∧
      c.toNat = if n ≤ s.arr.toNat then n else 2 * s.arr.toNat - n := by
  induction n with
  | zero => exact ⟨s.cnt, by rw [if_pos (by omega), ← hdir]; rfl, by simp [hcnt]⟩
  | succ n ih =>
    obtain ⟨c, hrun, hc⟩ := ih (by omega)
    by_cases hrise : n < s.arr.toNat
    · rw [if_pos hrise] at hrun
      rw [if_pos hrise.le] at hc
      have hbelow : c.toNat < s.arr.toNat := by omega
      have hcount := State.count_rising (s := { s with cnt := c, tdir := .up }) harr hmode rfl hbelow
      have hturn : (if c.toNat + 1 = s.arr.toNat then TDir.down else .up) = if n + 1 < s.arr.toNat then .up else .down := by
        by_cases htop : n + 1 = s.arr.toNat
        · rw [if_pos (by omega), if_neg (by omega)]
        · rw [if_neg (by omega), if_pos (by omega)]
      refine ⟨c + 1, ?_, by rw [succ_toNat_of_lt hbelow, if_pos (Nat.succ_le_of_lt hrise), hc]⟩
      rw [← hturn]
      exact runOps_ticks_succ hrun hen (State.tick_eq_of_count hcount hpsc hpsccnt)
    · rw [if_neg hrise] at hrun
      have habove : c.toNat = 2 * s.arr.toNat - n := by
        split at hc <;> omega
      have hcount := State.count_falling (s := { s with cnt := c, tdir := .down }) harr hmode rfl (by simp only; omega)
      refine ⟨c - 1, ?_, by rw [pred_toNat_of_pos (by omega), if_neg (by omega)]; omega⟩
      rw [if_neg (by omega)]
      exact runOps_ticks_succ hrun hen (State.tick_eq_of_count hcount hpsc hpsccnt)

/-- The last tick of the period brings the counter to 0 with an update event (R366). -/
theorem runOps_ticks_center_period : runOps (ticks (2 * s.arr.toNat)) s =
    some { s with ccra := s.ccr, sr := s.sr ||| 0x200 } := by
  obtain ⟨n, hlast⟩ : ∃ n, 2 * s.arr.toNat = n + 1 := ⟨2 * s.arr.toNat - 1, by omega⟩
  obtain ⟨c, hrun, hc⟩ := runOps_ticks_center hen hmode harr hpsc hcnt hpsccnt hdir n (by omega)
  have hone : c.toNat = 1 := by
    split at hc <;> omega
  rw [if_neg (by omega)] at hrun
  have hcount := State.count_falling_of_eq_one (s := { s with cnt := c, tdir := .down }) harr hmode rfl hone
  rw [hlast, runOps_ticks_succ hrun hen (State.tick_eq_of_count hcount hpsc hpsccnt)]
  simp [hcnt, hdir]

end center

/-- Settles O59, by induction on the ticks inside the period and by the tick that ends it. -/
theorem centerAlignedPeriod : Obligations.CenterAlignedPeriod := fun _ hen hmode harr hpsc hcnt hpsccnt hdir =>
  ⟨runOps_ticks_center hen hmode harr hpsc hcnt hpsccnt hdir, runOps_ticks_center_period hen hmode harr hpsc hcnt hpsccnt hdir⟩

/-! ### The active counts of a period (R367 to R369) -/

/-- How many numbers below `k` lie below `a` or from `b` on. -/
theorem countP_range_below_or_from (k a b : Nat) :
    (List.range k).countP (fun n => decide (n < a ∨ b ≤ n)) = min k a + (k - max a b) := by
  induction k with
  | zero => simp
  | succ k ih =>
    rw [List.range_succ, List.countP_append, ih, List.countP_singleton]
    simp only [decide_eq_true_eq]
    split <;> omega

/-- The active counts of a run of ticks in which the counter is below the comparator's value before tick `a` and from tick `b` on. -/
theorem activeTicks_eq {s : State} {k a b : Nat}
    (h : ∀ n < k, ∃ t, runOps (ticks n) s = some t ∧ t.ctrl.oe = true ∧ (t.cnt.toNat < t.ccra.toNat ↔ n < a ∨ b ≤ n)) :
    activeTicks k s = min k a + (k - max a b) := by
  rw [activeTicks, ← countP_range_below_or_from]
  refine List.countP_congr fun n hn => ?_
  obtain ⟨t, hrun, hoe, hbelow⟩ := h n (List.mem_range.mp hn)
  rw [hrun, Option.any_some, State.outputActive_iff hoe, hbelow, decide_eq_true_iff]

section active
variable {s : State} (hen : s.enabledNow .timTick = true) (hoe : s.ctrl.oe = true) (harr : 1 ≤ s.arr.toNat)
  (hpsc : s.psc = 0) (hcnt : s.cnt = 0) (hpsccnt : s.psccnt = 0)
include hen hoe harr hpsc hcnt hpsccnt

/-- The pin is active in the first counts of an up-counting period (R368). -/
theorem activeTicks_up (hmode : s.ctrl.cms = false) :
    activeTicks (s.arr.toNat + 1) s = min s.ccra.toNat (s.arr.toNat + 1) := by
  rw [activeTicks_eq (a := s.ccra.toNat) (b := s.arr.toNat + 1) fun n hn => ?_]
  · omega
  · obtain ⟨c, p, hrun, hc, -⟩ := runOps_ticks_up hen hmode harr hcnt hpsccnt n (by simpa [hpsc] using hn)
    have hcount : c.toNat = n := by simpa [hpsc] using hc
    refine ⟨_, hrun, hoe, ?_⟩
    simp only [hcount]
    omega

/-- The pin is active in the first and in the last counts of a center-aligned period (R369). -/
theorem activeTicks_center (hmode : s.ctrl.cms = true) (hdir : s.tdir = .up) :
    activeTicks (2 * s.arr.toNat) s =
      if s.ccra.toNat = 0 then 0 else if s.ccra.toNat ≤ s.arr.toNat then 2 * s.ccra.toNat - 1 else 2 * s.arr.toNat := by
  rw [activeTicks_eq (a := s.ccra.toNat) (b := 2 * s.arr.toNat + 1 - s.ccra.toNat) fun n hn => ?_]
  · split_ifs <;> omega
  · obtain ⟨c, hrun, hc⟩ := runOps_ticks_center hen hmode harr hpsc hcnt hpsccnt hdir n hn
    refine ⟨_, hrun, hoe, ?_⟩
    simp only [hc]
    split <;> omega

end active

/-- Settles O60, mode by mode. -/
theorem activeCountsOfOnePeriod : Obligations.ActiveCountsOfOnePeriod := fun _ hen hoe harr hpsc hcnt hpsccnt =>
  ⟨activeTicks_up hen hoe harr hpsc hcnt hpsccnt, activeTicks_center hen hoe harr hpsc hcnt hpsccnt⟩

end Sys2Proof.Machine
end

section
/-! PROOFS. The update unit (spec/45_update_unit.md): the start of a ring pass (R402), its slot reads (R403, R407) and its end (R404), the
direct pass (R405), and the whole ring pass that no other step interrupts (R409, R411). -/

namespace Sys2Proof.Machine

/-! ### The start of a ring pass (R402) -/

theorem exec_updStart_of_enabled {s : State} (hen : s.enabledNow .updStart = true) : exec .updStart s = .next s.startPass :=
  congrArg Host.Outcome.next (if_pos hen)

/-- Settles O32: the ring's first slot, by the trigger's kind. -/
theorem passStartTakesTheTrigger : Obligations.PassStartTakesTheTrigger := by
  intro s hen
  rw [exec_updStart_of_enabled hen, State.startPass, State.ringBase_eq]

/-! ### One slot read (R403, R407) -/

section readSlot
variable {s : State}

theorem exec_updRead_of_enabled (hen : s.enabledNow .updRead = true) : exec .updRead s = .next s.readSlot :=
  congrArg Host.Outcome.next (if_pos hen)

theorem State.readSlot_of_memOK (hok : s.memOK (s.slotAddr s.passSlot) 2 = true) : s.readSlot =
    { s with uacc := BitVec.ofNat 32 (s.uacc.toNat + s.mem.read (s.slotAddr s.passSlot) 2), ucur := s.ucur + 1 } :=
  (s.readSlot_cases.resolve_left (by simp [hok])).2

theorem State.readSlot_of_readError (hbad : s.memOK (s.slotAddr s.passSlot) 2 = false) :
    s.readSlot = { s.teFault with ustate := .idle } :=
  (s.readSlot_cases.resolve_right (by simp [hbad])).2

end readSlot

/-- A transfer error sets TEIF, bit 4, and stops the engine (spec/42_transfer_engine.md R300). -/
theorem State.teFault_eq (s : State) :
    s.teFault = { s with sr := s.sr ||| 0x010, ctrl := { s.ctrl with dmaen := false }, dreq := false } := by
  rw [State.teFault, State.setFlag, Flag.mask_teif]
  rfl

/-- Settles O33, by whether MemOK admits the slot. -/
theorem passReadAddsItsSlotOrEndsThePass : Obligations.PassReadAddsItsSlotOrEndsThePass := by
  intro s hen
  refine ⟨rfl, fun hok => ⟨_, (exec_updRead_of_enabled hen).trans (congrArg _ (State.readSlot_of_memOK hok)), ?_⟩, fun hbad => ?_⟩
  · rw [BitVec.toNat_ofNat, Memory.read_two, ← Nat.add_assoc]
    rfl
  · rw [exec_updRead_of_enabled hen, State.readSlot_of_readError hbad, State.teFault_eq]

/-! ### The end of a ring pass (R404) -/

/-- What a pass's end adds to SR: UDF, and RNGF when it clamps. -/
theorem State.commit_sr_eq (s : State) (m : Nat) :
    (s.commit m).sr = s.sr ||| 0x020 ||| (if 4095 < m then 0x080 else 0) := by
  rw [State.commit_sr, Flag.mask_rngf, Flag.mask_udf]
  by_cases hclamp : 4095 < m
  · simp [rangeViolated, hclamp, BitVec.or_assoc]
  · simp [rangeViolated, hclamp]

theorem exec_updFinish_of_enabled {s : State} (hen : s.enabledNow .updFinish = true) : exec .updFinish s = .next s.finishPass :=
  congrArg Host.Outcome.next (if_pos hen)

section finishPass
variable (s : State)

theorem State.finishPass_values : s.finishPass.filt.fval.toNat = clampR (mean s.uacc.toNat s.rlen.toNat) ∧
    s.finishPass.filt.duty.toNat = dutyMap (clampR (mean s.uacc.toNat s.rlen.toNat)) s.arr.toNat ∧
    s.finishPass.ccr = s.finishPass.filt.duty :=
  s.commit_values _

theorem State.finishPass_sr : s.finishPass.sr =
    s.sr ||| 0x020 ||| (if 4095 < mean s.uacc.toNat s.rlen.toNat then 0x080 else 0) :=
  s.commit_sr_eq _

@[simp] theorem State.finishPass_ustate : s.finishPass.ustate = .idle := rfl

theorem State.finishPass_frame : { s.finishPass with filt := s.filt, ccr := s.ccr, sr := s.sr, ustate := s.ustate } = s := by
  apply State.ext <;> simp

end finishPass

/-- Settles O34: the clamped mean and its duty are the common end of both passes. -/
theorem passFinishWritesTheDuty : Obligations.PassFinishWritesTheDuty := by
  intro s hen
  obtain ⟨hfval, hduty, hccr⟩ := s.finishPass_values
  rw [clampR_eq_min] at hfval hduty
  exact ⟨s.finishPass, exec_updFinish_of_enabled hen, ⟨hfval, hduty, hccr, s.finishPass_sr⟩, rfl, s.finishPass_frame⟩

/-! ### The direct pass (R405) -/

theorem exec_updDirect_of_enabled {s : State} (hen : s.enabledNow .updDirect = true) : exec .updDirect s = .next s.directPass :=
  congrArg Host.Outcome.next (if_pos hen)

section directPass
variable (s : State)

/-- A sample has 12 bits, so none is clamped (spec/43_filter_mapper.md R334). -/
theorem State.dr_le : s.dr.toNat ≤ 4095 := Nat.le_of_lt_succ s.dr.isLt

/-- The filtered value is the sample itself. -/
theorem State.directPass_values : s.directPass.filt.fval = s.dr ∧
    s.directPass.filt.duty.toNat = dutyMap s.dr.toNat s.arr.toNat ∧ s.directPass.ccr = s.directPass.filt.duty := by
  obtain ⟨hfval, hduty, hccr⟩ := State.commit_values (State.consumeDR { s with trigp := false }) s.dr.toNat
  rw [clampR_of_le s.dr_le] at hfval hduty
  exact ⟨BitVec.eq_of_toNat_eq hfval, hduty, hccr⟩

@[simp] theorem State.directPass_trigp : s.directPass.trigp = false := by simp [State.directPass]
@[simp] theorem State.directPass_unc : s.directPass.unc = false := by simp [State.directPass]

/-- The direct pass clears EOC, bit 0, and sets UDF, bit 5. -/
theorem State.directPass_bit (k : Nat) :
    s.directPass.sr.getLsbD k = ((s.sr.getLsbD k && decide (k ≠ 0)) || decide (k = 5)) := by
  have hlegal : rangeViolated s.dr.toNat = false := decide_eq_false (Nat.not_lt.mpr s.dr_le)
  rw [State.directPass, State.commit_bit, State.consumeDR_bit, hlegal, Bool.false_and, Bool.or_false]

theorem State.directPass_frame :
    { s.directPass with trigp := s.trigp, unc := s.unc, filt := s.filt, ccr := s.ccr, sr := s.sr } = s := by
  apply State.ext <;> simp

end directPass

/-- Settles O35: `consumeDR()`, then the end of a pass on a sample that needs no clamp. -/
theorem directPassMapsTheFreshestSample : Obligations.DirectPassMapsTheFreshestSample := by
  intro s hen
  obtain ⟨hfval, hduty, hccr⟩ := s.directPass_values
  refine ⟨s.directPass, exec_updDirect_of_enabled hen, s.directPass_trigp, s.directPass_unc, hfval, hduty, hccr, ?_, ?_,
    fun k heoc hudf => ?_, s.directPass_frame⟩
  · rw [State.directPass_bit]
    simp
  · rw [State.directPass_bit]
    simp
  · rw [State.directPass_bit]
    simp [heoc, hudf]

/-! ### The whole ring pass (R409, R411) -/

section runs
variable {i : Instr} {is : List Instr} {s t u : State}

theorem runOps_cons_of_next (h : exec i s = .next t) : runOps (i :: is) s = runOps is t := by
  rw [runOps, h]

/-- One operation more after a run. -/
theorem runOps_concat (hrun : runOps is s = some t) (h : exec i t = .next u) : runOps (is ++ [i]) s = some u := by
  rw [runOps_append, hrun, Option.bind_some, runOps_cons_of_next h, runOps]

end runs

section slots
variable (s : State) (base n : Nat)

@[simp] theorem State.length_slots : (s.slots base n).length = n := by simp [State.slots]

/-- One slot more adds its halfword to the sum. -/
theorem State.sum_slots_succ :
    (s.slots base (n + 1)).sum = (s.slots base n).sum + s.mem.read (s.slotAddr (base + n)) 2 := by
  simp [State.slots, List.range_succ]

theorem State.sum_slots_le : (s.slots base n).sum ≤ n * (2 ^ 16 - 1) := by
  have hslot : ∀ v ∈ s.slots base n, v ≤ 2 ^ 16 - 1 := fun v hv => by
    obtain ⟨j, -, rfl⟩ := List.mem_map.mp hv
    exact Nat.le_sub_one_of_lt (Memory.read_lt 2 s.mem _)
  simpa using List.sum_le_card_nsmul _ _ hslot

end slots

/-- The pass of `s` with its first `n` slots read and summed. -/
def State.passRead (s : State) (n : Nat) : State :=
  { s with uacc := BitVec.ofNat 32 (s.slots s.ubase n).sum, ucur := n }

section passRead
variable (s : State) (n : Nat)

@[simp] theorem State.passRead_ctrl : (s.passRead n).ctrl = s.ctrl := rfl
@[simp] theorem State.passRead_trigp : (s.passRead n).trigp = s.trigp := rfl
@[simp] theorem State.passRead_ccra : (s.passRead n).ccra = s.ccra := rfl
@[simp] theorem State.passRead_mem : (s.passRead n).mem = s.mem := rfl

/-- A pass that has just started has read no slot. -/
theorem State.startPass_passRead_zero : s.startPass.passRead 0 = s.startPass := rfl

/-- The sum of a whole ring is not cut to its 32 bits: RLEN has 9 bits and a slot 16 (spec/43_filter_mapper.md R332). -/
theorem State.passRead_uacc_toNat : (s.passRead s.rlen.toNat).uacc.toNat = (s.slots s.ubase s.rlen.toNat).sum := by
  have hsum := s.sum_slots_le s.ubase s.rlen.toNat
  have hrlen := s.rlen.isLt
  exact Nat.mod_eq_of_lt (by omega)

/-- What the sum of the whole ring is filtered to (spec/43_filter_mapper.md R330). -/
theorem State.clampR_mean_passRead :
    clampR (mean (s.passRead s.rlen.toNat).uacc.toNat s.rlen.toNat) = filterOf (s.slots s.ubase s.rlen.toNat) := by
  rw [State.passRead_uacc_toNat, filterOf, State.length_slots]

variable {s n}

/-- The next read of a pass adds its slot. -/
theorem State.passRead_readSlot (hok : s.memOK (s.slotAddr (s.ubase + n)) 2 = true) :
    (s.passRead n).readSlot = s.passRead (n + 1) := by
  rw [State.readSlot_of_memOK (s := s.passRead n) hok, State.passRead, State.passRead, State.sum_slots_succ]
  congr 1
  exact BitVec.eq_of_toNat_eq (by simp [State.passSlot, State.slotAddr])

/-- The first `n` reads of a running pass. -/
theorem runOps_updReads (hrun : s.ustate = .updating) (hn : n ≤ s.rlen.toNat)
    (hok : ∀ j, j < n → s.memOK (s.slotAddr (s.ubase + j)) 2 = true) :
    runOps (List.replicate n .updRead) (s.passRead 0) = some (s.passRead n) := by
  induction n with
  | zero => rfl
  | succ n ih =>
    have hen : (s.passRead n).enabledNow .updRead = true := State.updReadEnabled_iff.mpr ⟨hrun, hn⟩
    have hread := (exec_updRead_of_enabled hen).trans (congrArg _ (State.passRead_readSlot (hok n n.lt_succ_self)))
    rw [List.replicate_succ']
    exact runOps_concat (ih (by omega) fun j hj => hok j (by omega)) hread

end passRead

/-- The whole pass: the start, the reads of the trigger's ring and the end. -/
theorem runOps_ringPass {s : State} (hen : s.enabledNow .updStart = true)
    (hok : ∀ j, j < s.rlen.toNat → s.memOK (s.slotAddr (s.ringBase s.tkind + j)) 2 = true) :
    runOps (ringPass s.rlen.toNat) s = some (s.startPass.passRead s.rlen.toNat).finishPass := by
  have hreads := runOps_updReads s.startPass_ustate le_rfl hok
  rw [State.startPass_passRead_zero] at hreads
  have hfinish : (s.startPass.passRead s.rlen.toNat).enabledNow .updFinish = true := decide_eq_true rfl
  rw [ringPass, runOps_cons_of_next (exec_updStart_of_enabled hen)]
  exact runOps_concat hreads (exec_updFinish_of_enabled hfinish)

/-- Settles O57: the pass sums the slots of the trigger's ring, and its end filters and maps the sum. -/
theorem uninterruptedRingPassComputesTheDuty : Obligations.UninterruptedRingPassComputesTheDuty := by
  intro s hen hok
  obtain ⟨hfval, hduty, hccr⟩ := (s.startPass.passRead s.rlen.toNat).finishPass_values
  have hfilter : clampR (mean (s.startPass.passRead s.rlen.toNat).uacc.toNat s.rlen.toNat) =
      filterOf (s.slots (s.ringBase s.tkind) s.rlen.toNat) := s.startPass.clampR_mean_passRead
  refine ⟨_, runOps_ringPass hen hok, hfval.trans hfilter, ?_, hccr.symm, rfl, by simp, ?_, by simp, by simp, by simp⟩
  · rw [hccr, hduty]
    exact congrArg (dutyMap · s.arr.toNat) hfilter
  · rw [State.finishPass, State.commit_bit]
    simp

end Sys2Proof.Machine
end

section
/-! PROOFS. Events and flags (spec/60_exceptions.md): the request line (R502), what the enables mask (R503), and what clears a flag
(R504). -/

namespace Sys2Proof.Machine

/-! ### The request line -/

theorem Flag.mem_allButEoc_iff (f : Flag) : f ∈ Flag.allButEoc ↔ 1 ≤ f.code := by cases f <;> decide

/-- Every bit of SR is some flag's (spec/10_state.md R42). -/
theorem Flag.exists_code_eq {k : Nat} (hk : k < 11) : ∃ f : Flag, f.code = k := by
  have all : ∀ j : Fin 11, ((Flag.eoc :: Flag.allButEoc).get j).code = j := by decide
  exact ⟨_, all ⟨k, hk⟩⟩

/-- A property of the flags but EOC, by flag and by bit. -/
theorem Flag.exists_allButEoc_iff {p : Nat → Prop} : (∃ f ∈ Flag.allButEoc, p f.code) ↔ ∃ k, 1 ≤ k ∧ k ≤ 10 ∧ p k := by
  constructor
  · rintro ⟨f, hf, hp⟩
    exact ⟨f.code, f.mem_allButEoc_iff.mp hf, Nat.le_of_lt_succ f.code_lt, hp⟩
  · rintro ⟨k, hlow, hhigh, hp⟩
    obtain ⟨f, rfl⟩ := Flag.exists_code_eq (Nat.lt_succ_of_le hhigh)
    exact ⟨f, f.mem_allButEoc_iff.mpr hlow, hp⟩

theorem State.irq_iff (s : State) : s.irq = true ↔
    (s.flag .eoc = true ∧ s.enable .eoc = true ∧ s.ctrl.mode = false) ∨
      ∃ f ∈ Flag.allButEoc, s.flag f = true ∧ s.enable f = true := by
  simp [State.irq, and_assoc]

/-- Settles O43: the line's terms by flag, and the flags by their bits. -/
theorem requestLineIsTheOrOfEnabledFlags : Obligations.RequestLineIsTheOrOfEnabledFlags := fun s =>
  s.irq_iff.trans (or_congr_right (Flag.exists_allButEoc_iff (p := fun k => s.sr.getLsbD k = true ∧ s.ier.getLsbD k = true)))

/-! ### What the enables mask -/

/-- `s` with other enables in IER. -/
def State.withIer (s : State) (e : BitVec 11) : State := { s with ier := e }

section withIer
variable (s : State) (e : BitVec 11)

/-- A choice under other enables, its condition the same, is the choice between its sides under them. -/
theorem State.withIer_ite {t u t' u' : State} {c : Prop} {_ : Decidable c} (ht : t' = t.withIer e) (hu : u' = u.withIer e) :
    (if c then t' else u') = (if c then t else u).withIer e := by
  rw [ht, hu]
  exact (apply_ite (State.withIer · e) c t u).symm

theorem State.withIer_setFlagIf (c : Bool) (f : Flag) : (s.withIer e).setFlagIf c f = (s.setFlagIf c f).withIer e :=
  State.withIer_ite e rfl rfl

theorem State.withIer_trigger (k : TKind) : (s.withIer e).trigger k = (s.trigger k).withIer e := by
  rw [State.trigger, State.withIer_setFlagIf]
  rfl

theorem State.withIer_triggerIf (c : Bool) (k : TKind) : (s.withIer e).triggerIf c k = (s.triggerIf c k).withIer e :=
  State.withIer_ite e (s.withIer_trigger e k) rfl

/-! The converter's event. -/

theorem State.withIer_noteOverrun : (s.withIer e).noteOverrun = s.noteOverrun.withIer e := State.withIer_ite e rfl rfl

theorem State.withIer_requestService : (s.withIer e).requestService = s.requestService.withIer e :=
  State.withIer_triggerIf { s with dreq := s.dreq || (s.ctrl.mode && s.ctrl.dmaen) } e _ _

theorem State.withIer_conversion (x : Sample) : (s.withIer e).conversion x = (s.conversion x).withIer e := by
  rw [State.conversion, State.withIer_noteOverrun]
  exact (s.noteOverrun.deposit x).withIer_requestService e

/-! The transfer engine's event. -/

theorem State.withIer_checkTornRead (i : Nat) : (s.withIer e).checkTornRead i = (s.checkTornRead i).withIer e :=
  s.withIer_setFlagIf e (s.tornBy i) .rwovf

theorem State.withIer_slotWritten : (s.withIer e).slotWritten = s.slotWritten.withIer e :=
  congrArg State.storeSlot (s.consumeDR.withIer_checkTornRead e s.widx)

theorem State.withIer_halfTransfer (k : Nat) : (s.withIer e).halfTransfer k = (s.halfTransfer k).withIer e :=
  State.withIer_ite e ((s.setFlag .htif).withIer_triggerIf e _ _) rfl

theorem State.withIer_advanceSlot (k : Nat) : (s.withIer e).advanceSlot k = (s.advanceSlot k).withIer e :=
  State.withIer_ite e (State.withIer_triggerIf { s.setFlag .tcif with widx := 0 } e _ _) rfl

theorem State.withIer_transfer : (s.withIer e).transfer = s.transfer.withIer e := by
  refine State.withIer_ite e rfl ?_
  show ((s.withIer e).slotWritten.halfTransfer (s.widx + 1)).advanceSlot (s.widx + 1) = _
  rw [State.withIer_slotWritten, State.withIer_halfTransfer, State.withIer_advanceSlot]
  rfl

/-! The update unit's events. -/

theorem State.withIer_commit (m : Nat) : (s.withIer e).commit m = (s.commit m).withIer e := by
  rw [State.commit, State.withIer_setFlagIf]
  rfl

theorem State.withIer_finishPass : (s.withIer e).finishPass = s.finishPass.withIer e :=
  congrArg (fun t : State => { t with ustate := .idle }) (s.withIer_commit e _)

theorem State.withIer_directPass : (s.withIer e).directPass = s.directPass.withIer e :=
  State.withIer_commit (State.consumeDR { s with trigp := false }) e _

theorem State.withIer_readSlot : (s.withIer e).readSlot = s.readSlot.withIer e := State.withIer_ite e rfl rfl

/-! The timer's event. -/

theorem State.withIer_countUp : (s.withIer e).countUp = s.countUp.withIer e := State.withIer_ite e rfl rfl

theorem State.withIer_countCenter : (s.withIer e).countCenter = s.countCenter.withIer e := by
  have hsame : (s.withIer e).tdir = s.tdir := rfl
  unfold State.countCenter
  rw [hsame]
  cases s.tdir with
  | up => rfl
  | down => exact State.withIer_ite e rfl rfl

theorem State.withIer_count : (s.withIer e).count = s.count.withIer e :=
  State.withIer_ite e rfl (State.withIer_ite e (s.withIer_countCenter e) (s.withIer_countUp e))

theorem State.withIer_tick : (s.withIer e).tick = s.tick.withIer e :=
  State.withIer_ite e rfl (State.withIer_count { s with psccnt := 0 } e)

/-! The write of CTRL. -/

theorem State.withIer_writeLockedFields (w : Ctrl) : (s.withIer e).writeLockedFields w = (s.writeLockedFields w).withIer e :=
  State.withIer_ite e rfl rfl

theorem State.withIer_writeTimen (b : Bool) : (s.withIer e).writeTimen b = (s.writeTimen b).withIer e :=
  State.withIer_ite e rfl (State.withIer_ite e rfl rfl)

theorem State.withIer_beforeEngine (w : Ctrl) : (s.withIer e).beforeEngine w = (s.beforeEngine w).withIer e := by
  rw [State.beforeEngine, State.withIer_writeLockedFields]
  exact ((s.writeLockedFields w).writeFreeFields w).withIer_writeTimen e w.timen

theorem State.withIer_dmaEnable : (s.withIer e).dmaEnable = s.dmaEnable.withIer e :=
  State.withIer_ite e rfl (State.withIer_ite e rfl rfl)

theorem State.withIer_writeDmaen (b : Bool) : (s.withIer e).writeDmaen b = (s.writeDmaen b).withIer e :=
  State.withIer_ite e (s.withIer_dmaEnable e) (State.withIer_ite e rfl rfl)

theorem State.withIer_writeCtrl (w : Ctrl) : (s.withIer e).writeCtrl w = (s.writeCtrl w).withIer e := by
  rw [State.writeCtrl_eq_writeDmaen, State.withIer_beforeEngine, State.withIer_writeDmaen]
  rfl

end withIer

/-! What an arm of `exec` answers under other enables. -/

section answers
variable {e : BitVec 11} {t u v : State}

theorem next_withIer (h : (.next u : Host.Outcome State Fault Refusal) = .next t) (hv : v = u.withIer e) :
    (.next v : Host.Outcome State Fault Refusal) = .next (t.withIer e) := by
  obtain rfl := Host.Outcome.next.inj h
  rw [hv]

theorem done_withIer (hv : v = u.withIer e) : v.done = u.done.withIer e := by
  rw [hv]
  rfl

/-- An event: its body when it is enabled, a stutter when it is not (assumption 2). -/
theorem event_withIer {s : State} {c : Prop} {_ : Decidable c} (hv : v = u.withIer e) :
    (if c then v else s.withIer e) = (if c then u else s).withIer e :=
  State.withIer_ite e hv rfl

/-- An operation that is refused when its operand is out of range (spec/30_encoding.md R150). -/
theorem guarded_withIer {c : Prop} {_ : Decidable c} {r : Refusal}
    (h : (if c then .next u else .refused r : Host.Outcome State Fault Refusal) = .next t) (hv : v = u.withIer e) :
    (if c then .next v else .refused r : Host.Outcome State Fault Refusal) = .next (t.withIer e) := by
  split at h
  · rw [if_pos ‹c›]
    exact next_withIer h hv
  · cases h

end answers

/-- An operation that neither reads nor writes IER does the same under other enables. -/
theorem exec_withIer {i : Instr} {s t : State} (e : BitVec 11) (hrd : i ≠ .rdIer) (hreset : i ≠ .reset) (hwr : ∀ d, i ≠ .wrIer d)
    (h : exec i s = .next t) : exec i (s.withIer e) = .next (t.withIer e) := by
  cases i with
  | rdIer => exact absurd rfl hrd
  | reset => exact absurd rfl hreset
  | wrIer d => exact absurd rfl (hwr d)
  -- A register read, a write of a register with no lock, an ignored write, and a bus error.
  | rdCtrl | rdAdccfg | rdRbase | rdRlen | rdArr | rdPsc | rdCcr | rdCnt | rdSr | rdDr | rdStat | rdFilt | rdOvrcnt
  | rdRsv038 | rdRsv040 | rdRsv080 | rdRsv100 | rdRsv200 | wrCnt | wrSr | wrDr | wrStat | wrFilt | wrOvrcnt
  | wrRsv038 | wrRsv040 | wrRsv080 | wrRsv100 | wrRsv200 | subWord | oddOffset | twoModFour => exact next_withIer h rfl
  -- A write under a lock, which may raise CFGE beside the field (R205), and that of CCR under its ownership (R220).
  | wrAdccfg | wrRbase | wrRlen | wrArr | wrPsc | wrCcr => exact next_withIer h (done_withIer (State.withIer_ite e rfl rfl))
  | wrCtrl => exact next_withIer h (done_withIer (s.withIer_writeCtrl e _))
  | adcEoc => exact guarded_withIer h (event_withIer (s.withIer_conversion e _))
  | dmaXfer => exact next_withIer h (event_withIer (s.withIer_transfer e))
  | updStart => exact next_withIer h (event_withIer rfl)
  | updDirect => exact next_withIer h (event_withIer (s.withIer_directPass e))
  | updRead => exact next_withIer h (event_withIer (s.withIer_readSlot e))
  | updFinish => exact next_withIer h (event_withIer (s.withIer_finishPass e))
  | timTick => exact next_withIer h (event_withIer (s.withIer_tick e))
  | hostMemRd => exact guarded_withIer h rfl
  | hostMemWr => exact guarded_withIer h (State.withIer_ite e rfl rfl)
  -- The forms that spell no operation answer no next state (R150).
  | refusedZ1xx | refusedZ01x | refusedZ001 | refusedSz11 | refusedEvt0 | refusedEvtB | refusedEvtCF => cases h

/-- Settles O52: every operation commutes with a change of the enables, one arm of `exec` at a time. -/
theorem enablesMaskOnlyTheRequestLine : Obligations.EnablesMaskOnlyTheRequestLine :=
  fun _ _ _ e hrd hreset hwr h => exec_withIer e hrd hreset hwr h

/-! ### What clears a flag -/

/-- The flags an operation may clear (R504). -/
def mayClear : Instr → BitVec 11
  | .reset => BitVec.allOnes 11
  | .wrSr d => flagField d
  | .rdDr | .dmaXfer | .updDirect => Flag.eoc.mask
  | _ => 0

/-- Every flag of `s` outside the mask `m` is set in `t`. -/
def State.KeepsFlagsBut (m : BitVec 11) (s t : State) : Prop :=
  ∀ k, s.sr.getLsbD k = true → m.getLsbD k = false → t.sr.getLsbD k = true

section keepsFlags
variable {m : BitVec 11} (s : State)

theorem State.KeepsFlagsBut.of_sr_eq {s t : State} (h : t.sr = s.sr) : s.KeepsFlagsBut m t := fun k hset _ => by rw [h, hset]

/-- What has been done to the fields beside SR does not matter. -/
theorem State.KeepsFlagsBut.congr {s t u : State} (h : u.KeepsFlagsBut m t) (hsr : u.sr = s.sr) : s.KeepsFlagsBut m t :=
  fun k hset => h k (by rw [hsr, hset])

theorem State.KeepsFlagsBut.done {s t : State} (h : s.KeepsFlagsBut m t) : s.KeepsFlagsBut m t.done := h

theorem State.setFlag_keepsFlags (f : Flag) : s.KeepsFlagsBut m (s.setFlag f) := fun k h _ => by rw [State.setFlag_bit, h, Bool.true_or]

theorem State.setFlagIf_keepsFlags (c : Bool) (f : Flag) : s.KeepsFlagsBut m (s.setFlagIf c f) :=
  ite_keeps (s.setFlag_keepsFlags f) (.of_sr_eq rfl)

theorem State.writeCtrl_keepsFlags (w : Ctrl) : s.KeepsFlagsBut m (s.writeCtrl w) := fun k h _ => by
  rw [State.writeCtrl_eq_writeDmaen, State.writeAden_sr, State.writeDmaen_bit, State.beforeEngine_bit, h, Bool.true_or, Bool.true_or]

theorem State.conversion_keepsFlags (x : Sample) : s.KeepsFlagsBut m (s.conversion x) := fun k h _ => by
  simp [State.conversion_bit, h]

theorem State.commit_keepsFlags (n : Nat) : s.KeepsFlagsBut m (s.commit n) := fun k h _ => by
  rw [State.commit_bit, h, Bool.true_or, Bool.true_or]

theorem State.readSlot_keepsFlags : s.KeepsFlagsBut m s.readSlot :=
  ite_keeps (s.setFlag_keepsFlags .teif) (.of_sr_eq rfl)

theorem State.updateEvent_keepsFlags : s.KeepsFlagsBut m s.updateEvent := s.setFlag_keepsFlags .uevf

theorem State.countUp_keepsFlags : s.KeepsFlagsBut m s.countUp :=
  ite_keeps (.congr (State.updateEvent_keepsFlags _) rfl) (.of_sr_eq rfl)

theorem State.countCenter_keepsFlags : s.KeepsFlagsBut m s.countCenter := by
  unfold State.countCenter
  split
  · exact .of_sr_eq rfl
  · exact ite_keeps (.congr (State.updateEvent_keepsFlags _) rfl) (.of_sr_eq rfl)

theorem State.count_keepsFlags : s.KeepsFlagsBut m s.count :=
  ite_keeps (.of_sr_eq rfl) (ite_keeps s.countCenter_keepsFlags s.countUp_keepsFlags)

theorem State.tick_keepsFlags : s.KeepsFlagsBut m s.tick :=
  ite_keeps (.of_sr_eq rfl) (.congr (State.count_keepsFlags _) rfl)

theorem State.clearFlags_keepsFlags : s.KeepsFlagsBut m (s.clearFlags m) := fun k h hm => by
  have hk := BitVec.lt_of_getLsbD h
  rw [State.clearFlags_sr, BitVec.getLsbD_and, BitVec.getLsbD_not, h, hm, decide_eq_true hk]
  rfl

theorem State.directPass_keepsFlags : s.KeepsFlagsBut Flag.eoc.mask s.directPass := fun k h hm =>
  State.commit_keepsFlags (State.consumeDR { s with trigp := false }) _ k (State.clearFlags_keepsFlags s k h hm) hm

/-- A transfer consumes DR, unless its access fails; its events only set flags. -/
theorem State.transfer_keepsFlags : s.KeepsFlagsBut Flag.eoc.mask s.transfer := fun k h hm => by
  obtain ⟨-, heq⟩ | ⟨hok, -⟩ := s.transfer_cases
  · rw [heq]
    exact s.setFlag_keepsFlags .teif k h hm
  · have hk : k ≠ 0 := of_decide_eq_false ((Flag.mask_getLsbD .eoc k).symm.trans hm)
    simp [State.transfer_bit_of_memOK hok, State.slotWritten_bit, h, hk]

end keepsFlags

/-- An operation that answers keeps every flag but those it may clear. -/
theorem exec_keepsFlags {i : Instr} {s t : State} (h : exec i s = .next t) : s.KeepsFlagsBut (mayClear i) t := by
  cases i with
  | reset =>
    intro k hset (hm : (BitVec.allOnes 11).getLsbD k = false)
    rw [BitVec.getLsbD_allOnes, decide_eq_true (BitVec.lt_of_getLsbD hset)] at hm
    cases hm
  | wrSr | rdDr => exact next_keeps h s.clearFlags_keepsFlags
  -- Any other register read, a write of a register with no lock, an ignored write, and a bus error.
  | rdCtrl | rdAdccfg | rdRbase | rdRlen | rdArr | rdPsc | rdCcr | rdCnt | rdSr | rdIer | rdStat | rdFilt | rdOvrcnt
  | rdRsv038 | rdRsv040 | rdRsv080 | rdRsv100 | rdRsv200 | wrCnt | wrIer | wrDr | wrStat | wrFilt | wrOvrcnt
  | wrRsv038 | wrRsv040 | wrRsv080 | wrRsv100 | wrRsv200 | subWord | oddOffset | twoModFour =>
    exact next_keeps h (.of_sr_eq rfl)
  -- A write under a lock, which may raise CFGE beside the field (R205).
  | wrAdccfg | wrRbase | wrRlen | wrArr | wrPsc => exact next_keeps h (.done (.congr (State.setFlagIf_keepsFlags _ _ _) rfl))
  | wrCcr => exact next_keeps h (.done (ite_keeps (s.setFlag_keepsFlags .cfge) (.of_sr_eq rfl)))
  | wrCtrl => exact next_keeps h (s.writeCtrl_keepsFlags _).done
  | adcEoc => exact guarded_keeps h (ite_keeps (s.conversion_keepsFlags _) (.of_sr_eq rfl))
  | dmaXfer => exact next_keeps h (ite_keeps s.transfer_keepsFlags (.of_sr_eq rfl))
  | updStart => exact next_keeps h (ite_keeps (.of_sr_eq rfl) (.of_sr_eq rfl))
  | updDirect => exact next_keeps h (ite_keeps s.directPass_keepsFlags (.of_sr_eq rfl))
  | updRead => exact next_keeps h (ite_keeps s.readSlot_keepsFlags (.of_sr_eq rfl))
  | updFinish => exact next_keeps h (ite_keeps (s.commit_keepsFlags _) (.of_sr_eq rfl))
  | timTick => exact next_keeps h (ite_keeps s.tick_keepsFlags (.of_sr_eq rfl))
  | hostMemRd => exact guarded_keeps h (.of_sr_eq rfl)
  | hostMemWr => exact guarded_keeps h (ite_keeps (.of_sr_eq rfl) (.of_sr_eq rfl))
  -- The forms that spell no operation answer no next state (R150).
  | refusedZ1xx | refusedZ01x | refusedZ001 | refusedSz11 | refusedEvt0 | refusedEvtB | refusedEvtCF => cases h

/-- Which operations may clear bit `k` of SR. -/
theorem mayClear_bit {i : Instr} {k : Nat} (h : (mayClear i).getLsbD k = true) :
    i = .reset ∨ (∃ d, i = .wrSr d ∧ d.getLsbD k = true) ∨ (k = 0 ∧ (i = .rdDr ∨ i = .dmaXfer ∨ i = .updDirect)) := by
  have eoc (h : Flag.eoc.mask.getLsbD k = true) : k = 0 := of_decide_eq_true ((Flag.mask_getLsbD .eoc k).symm.trans h)
  cases i with
  | reset => exact .inl rfl
  | wrSr d => exact .inr (.inl ⟨d, rfl, (flagField_getLsbD d (BitVec.lt_of_getLsbD h)).symm.trans h⟩)
  | rdDr => exact .inr (.inr ⟨eoc h, .inl rfl⟩)
  | dmaXfer => exact .inr (.inr ⟨eoc h, .inr (.inl rfl)⟩)
  | updDirect => exact .inr (.inr ⟨eoc h, .inr (.inr rfl)⟩)
  | _ => cases BitVec.getLsbD_zero.symm.trans h

/-- Settles O48: the flags every operation keeps, and the write of SR, which leaves the trigger. -/
theorem flagsAreClearedOnlyOnPurpose : Obligations.FlagsAreClearedOnlyOnPurpose := by
  intro i s t h
  refine ⟨fun k hset hclear => mayClear_bit ?_, ?_⟩
  · by_contra hm
    have hkept := exec_keepsFlags h k hset (Bool.eq_false_iff.mpr hm)
    cases hkept.symm.trans hclear
  · rintro d rfl
    obtain rfl := Host.Outcome.next.inj h
    exact ⟨rfl, rfl⟩

end Sys2Proof.Machine
end

section
/-! PROOFS. Reset (spec/70_reset_and_hazards.md): what the event writes and keeps (R600), the values it leaves (R601), and the invariant
they meet. -/

namespace Sys2Proof.Machine

theorem exec_reset (s : State) : exec .reset s = .next s.resetBlock := rfl

/-- Settles O39: the event is the reset of the block, whose fields are the statement's. -/
theorem resetRestoresEveryRegister : Obligations.ResetRestoresEveryRegister := exec_reset

/-! ### The values (R601) -/

/-- With no flag set, nothing drives the request line, whatever the enables (spec/60_exceptions.md R502). -/
theorem State.irq_of_no_flag {s : State} (hsr : s.sr = 0) : s.irq = false := by
  have hflag (f : Flag) : ¬ s.flag f = true := by simp [State.flag, hsr]
  refine Bool.eq_false_iff.mpr fun hirq => ?_
  obtain ⟨heoc, -⟩ | ⟨f, -, hset, -⟩ := s.irq_iff.mp hirq
  · exact hflag .eoc heoc
  · exact hflag f hset

/-- Settles O40: the registers and the hidden items hold the table's values, no flag drives IRQ, and with OE 0 the pin is at POL. -/
theorem resetStateHasTheSpecsValues : Obligations.ResetStateHasTheSpecsValues :=
  -- CTRL to OVRCNT, in the order of the table.
  ⟨rfl, rfl, rfl, rfl, rfl, rfl, rfl, rfl, rfl, rfl, rfl, rfl, rfl, rfl,
    -- The hidden items.
    rfl, rfl, rfl, rfl, rfl, rfl, rfl, rfl, rfl, rfl, rfl, rfl,
    State.irq_of_no_flag rfl, State.pwmOut_of_disabled rfl⟩

/-! ### The invariant -/

/-- The reset state is what RESET makes of it. -/
theorem State.resetBlock_reset : State.reset.resetBlock = State.reset := rfl

/-- Settles O54: the reset of a block with a canonical memory, here the empty one. -/
theorem resetMeetsTheInvariant : Obligations.ResetMeetsTheInvariant := by
  rw [Obligations.ResetMeetsTheInvariant, ← State.resetBlock_reset]
  exact State.resetBlock_inv State.reset_memory_wf

end Sys2Proof.Machine
end

section
/-! PROOFS. The round trip of the encoding (spec/30_encoding.md sections 1 and 2): what the decoder reads from the fields of a command
word, the word of every operation, and the word the host places (assumption 1). -/

namespace Sys2Proof

/-! ### The fields of a command word -/

/-- A part of OFF is that part of the command word. -/
theorem commandWord_offPart (w : Bool) (sz : BitVec 2) (off : BitVec 10) {s n : Nat} (h : s + n ≤ 10) :
    (commandWord w sz off).extractLsb' s n = off.extractLsb' s n :=
  BitVec.extractLsb'_append_eq_of_add_le h

/-- What a command word with Z = 000 decodes to, by its fields (R147, R149, R150). -/
theorem decodeBus_commandWord (w : Bool) (sz : BitVec 2) (off : BitVec 10) (d : Word) :
    decodeBus (commandWord w sz off) d =
      if sz.getLsbD 1 then
        if sz.getLsbD 0 then .refusedSz11 w off
        else if off.getLsbD 0 then .oddOffset w (off.extractLsb' 1 9) (if w then d else 0)
        else if off.getLsbD 1 then .twoModFour w (off.extractLsb' 2 8) (if w then d else 0)
        else decodeWordAccess w off d
      else .subWord w (sz.getLsbD 0) off (if w then d else 0) := by
  simp [decodeBus, commandWord_bit, commandWord_offPart, -BitVec.getLsbD_eq_getElem]

/-- The decoder leaves the data of a well-formed access as it is (R141). -/
theorem data_of_readCarriesNoData {w : Bool} {d : Word} (h : readCarriesNoData w d = true) : (if w then d else 0) = d := by
  cases w with
  | true => rfl
  | false => exact (eq_of_beq h).symm

section append
variable {n m : Nat} (hi : BitVec n)

theorem append_getLsbD_high (lo : BitVec m) (j : Nat) : (hi ++ lo).getLsbD (m + j) = hi.getLsbD j := by
  simp [BitVec.getLsbD_append]

theorem append_getLsbD_low (lo : BitVec m) {j : Nat} (h : j < m) : (hi ++ lo).getLsbD j = lo.getLsbD j := by
  rw [BitVec.getLsbD_append, if_pos h]

/-- The bits of an aligned offset above the field `k` of its reserved range. -/
theorem alignedOffset_getLsbD_high (k : BitVec m) (j : Nat) : (hi ++ k ++ 0#2).getLsbD (2 + (m + j)) = hi.getLsbD j := by
  rw [append_getLsbD_high, append_getLsbD_high]

theorem alignedOffset_field (k : BitVec m) : (hi ++ k ++ 0#2).extractLsb' 2 m = k := by
  rw [BitVec.extractLsb'_append_eq_of_le (Nat.le_refl 2)]
  exact BitVec.extractLsb'_append_eq_right

end append

/-! ### Malformed accesses (R149) -/

theorem decodeBus_subWord (w half : Bool) (off : BitVec 10) {d : Word} (hd : readCarriesNoData w d = true) :
    decodeBus (commandWord w (0#1 ++ BitVec.ofBool half) off) d = .subWord w half off d := by
  rw [decodeBus_commandWord, data_of_readCarriesNoData hd]
  cases half <;> rfl

theorem decodeBus_oddOffset (w : Bool) (off : BitVec 9) {d : Word} (hd : readCarriesNoData w d = true) :
    decodeBus (commandWord w 0b10#2 (off ++ 1#1)) d = .oddOffset w off d := by
  have h0 : (off ++ 1#1).getLsbD 0 = true := append_getLsbD_low off 1#1 Nat.zero_lt_one
  have hoff : (off ++ 1#1).extractLsb' 1 9 = off := BitVec.extractLsb'_append_eq_left
  rw [decodeBus_commandWord, data_of_readCarriesNoData hd]
  simp [h0, hoff]

theorem decodeBus_twoModFour (w : Bool) (off : BitVec 8) {d : Word} (hd : readCarriesNoData w d = true) :
    decodeBus (commandWord w 0b10#2 (off ++ 0b10#2)) d = .twoModFour w off d := by
  have h0 : (off ++ 0b10#2).getLsbD 0 = false := append_getLsbD_low off 0b10#2 Nat.zero_lt_two
  have h1 : (off ++ 0b10#2).getLsbD 1 = true := append_getLsbD_low off 0b10#2 Nat.one_lt_two
  have hoff : (off ++ 0b10#2).extractLsb' 2 8 = off := BitVec.extractLsb'_append_eq_left
  rw [decodeBus_commandWord, data_of_readCarriesNoData hd]
  simp [h0, h1, hoff, -BitVec.getLsbD_eq_getElem]

/-! ### Refused command words (R150) -/

theorem decodeBus_refusedZ1xx (rest : BitVec 15) (d : Word) : decodeBus (1#1 ++ rest) d = .refusedZ1xx rest := by
  have h15 : (1#1 ++ rest).getLsbD 15 = true := append_getLsbD_high 1#1 rest 0
  exact (if_pos h15).trans (congrArg Instr.refusedZ1xx BitVec.extractLsb'_append_eq_right)

theorem decodeBus_refusedZ01x (rest : BitVec 14) (d : Word) : decodeBus (0b01#2 ++ rest) d = .refusedZ01x rest := by
  have h15 : (0b01#2 ++ rest).getLsbD 15 = false := append_getLsbD_high 0b01#2 rest 1
  have h14 : (0b01#2 ++ rest).getLsbD 14 = true := append_getLsbD_high 0b01#2 rest 0
  have hrest : (0b01#2 ++ rest).extractLsb' 0 14 = rest := BitVec.extractLsb'_append_eq_right
  simp [decodeBus, h15, h14, hrest, -BitVec.getLsbD_eq_getElem]

theorem decodeBus_refusedZ001 (rest : BitVec 13) (d : Word) : decodeBus (0b001#3 ++ rest) d = .refusedZ001 rest := by
  have h15 : (0b001#3 ++ rest).getLsbD 15 = false := append_getLsbD_high 0b001#3 rest 2
  have h14 : (0b001#3 ++ rest).getLsbD 14 = false := append_getLsbD_high 0b001#3 rest 1
  have h13 : (0b001#3 ++ rest).getLsbD 13 = true := append_getLsbD_high 0b001#3 rest 0
  have hrest : (0b001#3 ++ rest).extractLsb' 0 13 = rest := BitVec.extractLsb'_append_eq_right
  simp [decodeBus, h15, h14, h13, hrest, -BitVec.getLsbD_eq_getElem]

theorem decodeBus_refusedSz11 (w : Bool) (off : BitVec 10) (d : Word) :
    decodeBus (commandWord w 0b11#2 off) d = .refusedSz11 w off :=
  decodeBus_commandWord w 0b11#2 off d

/-! ### Word accesses (R147) -/

/-- The word access to the aligned offset whose bits above 1:0 are `row`. -/
theorem decodeBus_aligned (w : Bool) (row : BitVec 8) (d : Word) :
    decodeBus (commandWord w 0b10#2 (row ++ 0#2)) d = decodeWordAccess w (row ++ 0#2) d := by
  have h0 : (row ++ 0#2).getLsbD 0 = false := append_getLsbD_low row 0#2 Nat.zero_lt_two
  have h1 : (row ++ 0#2).getLsbD 1 = false := append_getLsbD_low row 0#2 Nat.one_lt_two
  rw [decodeBus_commandWord]
  simp [h0, h1, -BitVec.getLsbD_eq_getElem]

/-- The bits of an offset select one form. -/
theorem ReservedForm.unique {w : Bool} {off : BitVec 10} {d : Word} {i j : Instr} (hi : ReservedForm w off d i)
    (hj : ReservedForm w off d j) : i = j := by
  -- The same form on both sides, or two forms whose premises contradict.
  cases hi <;> cases hj <;> trivial

theorem ReservedForm.offset_ge {w : Bool} {off : BitVec 10} {d : Word} {i : Instr} (h : ReservedForm w off d i) :
    0x038 ≤ off.toNat := by
  cases h with
  | rsv200 | rsv100 | rsv080 | rsv040 | rsv038 =>
    simp only [getLsbD_iff_toNat] at *
    omega

/-- An aligned word access decodes to what its reserved form is. -/
theorem ReservedForm.decodeBus_eq {w : Bool} {row : BitVec 8} {d : Word} {i : Instr} (h : ReservedForm w (row ++ 0#2) d i) :
    decodeBus (commandWord w 0b10#2 (row ++ 0#2)) d = i := by
  rw [decodeBus_aligned]
  exact (decodeWordAccess_reserved w d h.offset_ge).unique h

section reserved
variable (w : Bool) (d : Word)

theorem decodeBus_rsv200 (k : BitVec 7) :
    decodeBus (commandWord w 0b10#2 (0b1#1 ++ k ++ 0#2)) d = if w then .wrRsv200 k d else .rdRsv200 k := by
  have h9 := alignedOffset_getLsbD_high 0b1#1 k 0
  refine ReservedForm.decodeBus_eq ?_
  simpa only [alignedOffset_field] using ReservedForm.rsv200 (w := w) (d := d) h9

theorem decodeBus_rsv100 (k : BitVec 6) :
    decodeBus (commandWord w 0b10#2 (0b01#2 ++ k ++ 0#2)) d = if w then .wrRsv100 k d else .rdRsv100 k := by
  have hbit := alignedOffset_getLsbD_high 0b01#2 k
  have h9 := Bool.eq_false_iff.mp (hbit 1)
  refine ReservedForm.decodeBus_eq ?_
  simpa only [alignedOffset_field] using ReservedForm.rsv100 (w := w) (d := d) h9 (hbit 0)

theorem decodeBus_rsv080 (k : BitVec 5) :
    decodeBus (commandWord w 0b10#2 (0b001#3 ++ k ++ 0#2)) d = if w then .wrRsv080 k d else .rdRsv080 k := by
  have hbit := alignedOffset_getLsbD_high 0b001#3 k
  have h9 := Bool.eq_false_iff.mp (hbit 2)
  have h8 := Bool.eq_false_iff.mp (hbit 1)
  refine ReservedForm.decodeBus_eq ?_
  simpa only [alignedOffset_field] using ReservedForm.rsv080 (w := w) (d := d) h9 h8 (hbit 0)

theorem decodeBus_rsv040 (k : BitVec 4) :
    decodeBus (commandWord w 0b10#2 (0b0001#4 ++ k ++ 0#2)) d = if w then .wrRsv040 k d else .rdRsv040 k := by
  have hbit := alignedOffset_getLsbD_high 0b0001#4 k
  have h9 := Bool.eq_false_iff.mp (hbit 3)
  have h8 := Bool.eq_false_iff.mp (hbit 2)
  have h7 := Bool.eq_false_iff.mp (hbit 1)
  refine ReservedForm.decodeBus_eq ?_
  simpa only [alignedOffset_field] using ReservedForm.rsv040 (w := w) (d := d) h9 h8 h7 (hbit 0)

theorem decodeBus_rsv038 (k : BitVec 1) :
    decodeBus (commandWord w 0b10#2 (0b0000111#7 ++ k ++ 0#2)) d = if w then .wrRsv038 k d else .rdRsv038 k := by
  have hbit := alignedOffset_getLsbD_high 0b0000111#7 k
  have h9 := Bool.eq_false_iff.mp (hbit 6)
  have h8 := Bool.eq_false_iff.mp (hbit 5)
  have h7 := Bool.eq_false_iff.mp (hbit 4)
  have h6 := Bool.eq_false_iff.mp (hbit 3)
  refine ReservedForm.decodeBus_eq ?_
  simpa only [alignedOffset_field] using ReservedForm.rsv038 (w := w) (d := d) h9 h8 h7 h6 ⟨hbit 2, hbit 1, hbit 0⟩

end reserved

/-! ### Every operation -/

theorem decodeEvt_refusedEvtCF (low : BitVec 2) (x : Nat) (a : Word) (n : Nat) (v : Word) :
    decodeEvt (0b11#2 ++ low) x a n v = .refusedEvtCF low := by
  obtain ⟨c, hc, rfl⟩ : ∃ c < 4, low = BitVec.ofNat 2 c := ⟨low.toNat, low.isLt, by simp⟩
  interval_cases c <;> rfl

/-- The row of a well-formed operation's word, with the operands the word carries, is the operation. -/
theorem decodeRow_encode {i : Instr} (h : i.wellFormed = true) : decodeRow (encode i) = i := by
  cases i with
  | rdRsv038 k => exact decodeBus_rsv038 false 0 k
  | rdRsv040 k => exact decodeBus_rsv040 false 0 k
  | rdRsv080 k => exact decodeBus_rsv080 false 0 k
  | rdRsv100 k => exact decodeBus_rsv100 false 0 k
  | rdRsv200 k => exact decodeBus_rsv200 false 0 k
  | wrRsv038 k d => exact decodeBus_rsv038 true d k
  | wrRsv040 k d => exact decodeBus_rsv040 true d k
  | wrRsv080 k d => exact decodeBus_rsv080 true d k
  | wrRsv100 k d => exact decodeBus_rsv100 true d k
  | wrRsv200 k d => exact decodeBus_rsv200 true d k
  | subWord w half off => exact decodeBus_subWord w half off h
  | oddOffset w off => exact decodeBus_oddOffset w off h
  | twoModFour w off => exact decodeBus_twoModFour w off h
  | refusedZ1xx rest => exact decodeBus_refusedZ1xx rest 0
  | refusedZ01x rest => exact decodeBus_refusedZ01x rest 0
  | refusedZ001 rest => exact decodeBus_refusedZ001 rest 0
  | refusedSz11 w off => exact decodeBus_refusedSz11 w off 0
  | refusedEvtCF low => exact decodeEvt_refusedEvtCF low 0 0 0 0
  -- A register access or an event is spelled by one fixed word or code.
  | _ => rfl

/-- Settles O1: the row of the word is the operation, whose operands are in range. -/
theorem decodeOfEncodeIsTheOperation : Obligations.DecodeOfEncodeIsTheOperation := by
  intro i h
  rw [decode, decodeRow_encode h, if_pos h]

/-! ### The words the spec writes out -/

/-- Settles O3: the decoder run on each word. -/
theorem specWordsDecodeToTheirOperations : Obligations.SpecWordsDecodeToTheirOperations :=
  -- Register reads and writes.
  ⟨rfl, rfl, rfl, rfl, rfl,
    -- Reserved offsets and malformed accesses.
    rfl, rfl, rfl, rfl, rfl, rfl,
    -- Events.
    rfl, rfl, rfl, rfl, rfl, rfl, rfl⟩

/-! ### The word the host places -/

theorem decodeTableWord_eq_some_iff {nbits w : Nat} {i : Instr} :
    decodeTableWord nbits w = some i ↔ decode (Label.ofBits nbits w) = .ok i := by
  rw [decodeTableWord]
  cases decode (Label.ofBits nbits w) <;> simp [Except.toOption]

end Sys2Proof

namespace Sys2Proof.Machine

/-- Taking a placed word leaves the queue and the host as they were before it was placed. -/
theorem State.fetched_withFetchWord (s : State) (nbits w : Nat) :
    (s.withFetchWord nbits w).fetched = { s with stepNo := s.stepNo + 1 } := rfl

/-- Settles O6: the placed word is the oldest queued input, and taking it undoes the placing. -/
theorem placedWordIsTheNextStep : Obligations.PlacedWordIsTheNextStep := by
  intro s nbits w i h
  rw [← State.fetched_withFetchWord s nbits w]
  exact step_of_decode_ok (decodeTableWord_eq_some_iff.mp h)

end Sys2Proof.Machine
end
